-- ==== Sys2Proof/Syntax.lean ====
section
/-!
DEFINITION. The block's instructions: the operations the arbiter grants, one constructor per row of
spec/opcode_table.json (spec/30_encoding.md R55). No operation has an operand (R57).
-/
namespace Sys2Proof

/-- One granted operation (R55). The constructor of the RESET row is `resetAction`, the name the spec gives the reset
button's action to keep it apart from system reset (R14). -/
inductive Instr where
  /-- NONE, GRANT 000: the idle operation (R115). -/
  | none
  /-- SLOW, GRANT 001: the slow-tick service (R72). -/
  | slow
  /-- FAST, GRANT 010: the fast-tick service (R95). -/
  | fast
  /-- START, GRANT 100: the start button's action (R111). -/
  | start
  /-- PAUSE, GRANT 101: the pause button's action (R112). -/
  | pause
  /-- RESET, GRANT 110: the reset button's action (R113). -/
  | resetAction
  /-- SPUR, GRANT 111: the spurious button service (R114). -/
  | spur
  deriving DecidableEq, Repr, Inhabited

end Sys2Proof
end

