-- ==== Sys2Proof/Word.lean ====
section
/-!
DEFINITION. The bit vectors of the block (spec/00_scope.md R9: bit 0 is the least significant bit, every value is
unsigned). One name per width the spec gives.
-/
namespace Sys2Proof

/-- ET, the packed-BCD elapsed time (R22, R50). -/
abbrev EtWord := BitVec 16
/-- One decimal digit of ET (R14, "Digit / nibble"). -/
abbrev Digit := BitVec 4
/-- The segment pattern on SEG_OUT, active-low (R25, R51). -/
abbrev SegPattern := BitVec 8
/-- The digit-select pattern on SEL_OUT, active-low (R26, R52). -/
abbrev SelPattern := BitVec 5
/-- A display position (R24, R54). -/
abbrev Position := BitVec 3
/-- The button port's pending indicators (R29). -/
abbrev Indicators := BitVec 4
/-- The three button levels, active-low (R53). -/
abbrev ButtonLevels := BitVec 3
/-- A tick counter (R32, R33). -/
abbrev Counter := BitVec 16
/-- A GRANT code (R35, R55). -/
abbrev Grant := BitVec 3

end Sys2Proof
end

