-- ==== Sys2Proof/Config.lean ====
section
/-!
DEFINITION. What an implementation fixes (spec/00_scope.md R7) and the values the spec leaves OPEN. The values the
spec gives stand in Sys2Proof/Machine/Params.lean; the constants here have no body, so that nothing can be proved of
the value they take.
-/
namespace Sys2Proof

/-- Where the button source ranks among the timers (R147): above SLOW, between SLOW and FAST, or below FAST. -/
inductive BtnRank where
  | high
  | mid
  | low
  deriving DecidableEq, Repr, Inhabited

/-- The inputs of one cycle (R34): the three active-low button lines, the edge on any other line of the port, and
system reset. -/
structure Pins where
  btnIn     : ButtonLevels
  otherEdge : Bool
  rst       : Bool
  deriving DecidableEq, Repr, Inhabited

/-- The counters of the tick generator (R32, R33). -/
inductive TickCounter where
  | fastCnt
  | slowPre
  | slowCnt
  deriving DecidableEq, Repr

/-- The implementation parameters of R7 that are not fixed by the format of a register. -/
structure Params where
  /-- REF_CLK_HZ. No rule of the step reads it (R185). -/
  refClkHz       : Nat
  /-- FAST_DIV, in reference cycles. -/
  fastDiv        : Nat
  /-- SLOW_PRESCALE, in reference cycles. -/
  slowPrescale   : Nat
  /-- SLOW_DIV, in prescaled counts. -/
  slowDiv        : Nat
  /-- INC_NIBBLE, the digit a slow tick advances. -/
  incNibble      : Nat
  /-- ET_MAX, the value at which counting stops. -/
  etMax          : EtWord
  /-- SEG_TABLE, the pattern of each decimal digit. -/
  segTable       : Vector SegPattern 10
  /-- CODEC_INVALID, the pattern of a digit 10..15. -/
  codecInvalid   : SegPattern
  /-- SEP_PATTERN, the separator's pattern. -/
  sepPattern     : SegPattern
  /-- BTN_RANK. -/
  btnRank        : BtnRank
  /-- DEBOUNCE_CYCLES. -/
  debounceCycles : Nat
  deriving DecidableEq, Repr

/-- BTN_RANK is OPEN (R7, R147, decision D4). DESIGN CHOICE of its form, safe: log entry 3. -/
opaque Config.btnRank : BtnRank

/-- SEP_PATTERN is OPEN (R7, R93, decision D9). DESIGN CHOICE of its form, safe: log entry 4. -/
opaque Config.sepPattern : SegPattern

/-- The inputs of a cycle that no stimulus has fixed are free draws (R34, decision D30), one for each number of
draws taken before. DESIGN CHOICE of its form, safe: log entry 1. -/
opaque Config.freePins : Nat → Pins

/-- What adding 1 to a counter at 0xFFFF leaves in it: the spec gives no value for a sum past the 16 bits (R32, R33, R137,
R138). DESIGN CHOICE of its form, safe: log entry 15. -/
opaque Config.countPastWidth : TickCounter → Counter

end Sys2Proof
end

