-- ==== Sys2Proof/WellFormed.lean ====
section
/-!
DEFINITION. Well-formedness. An operation has no operand, so every instruction is well formed (spec/30_encoding.md
R57, R59); what can be ill formed is a choice of parameters, whose ranges spec/00_scope.md R7 gives.
-/
namespace Sys2Proof

/-- Every operation is well formed: it has no field to check (R57). -/
def Instr.wellFormed : Instr → Bool
  | .none => true
  | .slow => true
  | .fast => true
  | .start => true
  | .pause => true
  | .resetAction => true
  | .spur => true

/-- FAST_DIV, SLOW_PRESCALE and SLOW_DIV each lie in 1..65536 (R7). -/
def Params.divisorsInRange (c : Params) : Bool :=
  [c.fastDiv, c.slowPrescale, c.slowDiv].all fun d => decide (1 ≤ d ∧ d ≤ 65536)

/-- INC_NIBBLE lies in 0..3 (R7). -/
def Params.incNibbleInRange (c : Params) : Bool := decide (c.incNibble ≤ 3)

/-- Every parameter lies in the range R7 gives it. -/
def Params.wellFormed (c : Params) : Bool := c.divisorsInRange && c.incNibbleInRange

end Sys2Proof
end

