-- ==== Sys2Proof/Decode.lean ====
section
/-!
DEFINITION. Decoding and encoding of GRANT codes (spec/30_encoding.md R55, R58, R63). A code is exactly three bits
(R59); the block stores no instruction in bytes (R62), so the decoder takes a number of any size and names what it
rejects. DESIGN CHOICE, safe: log entry 9.
-/
namespace Sys2Proof

/-- Why a number is no granted operation. -/
inductive DecodeError where
  /-- GRANT 0b011, reserved (R58 (a)). -/
  | reservedGrant
  /-- More than three bits (R59). -/
  | notAGrantCode
  deriving DecidableEq, Repr

/-- The operation of a code given as a number (R55, R63). -/
def decodeWord (w : Nat) : Except DecodeError Instr :=
  match w with
  | 0b000 => .ok .none
  | 0b001 => .ok .slow
  | 0b010 => .ok .fast
  | 0b011 => .error .reservedGrant
  | 0b100 => .ok .start
  | 0b101 => .ok .pause
  | 0b110 => .ok .resetAction
  | 0b111 => .ok .spur
  | _ => .error .notAGrantCode

/-- Decoding of the GRANT signal, total on its eight values (R59, R63). -/
def decode (g : Grant) : Except DecodeError Instr := decodeWord g.toNat

/-- The instruction of an opcode-table word of `nbits` bits: every bit above them is 0. -/
def decodeTableWord (nbits w : Nat) : Option Instr :=
  match decodeWord (w % 2 ^ nbits) with
  | .ok i => some i
  | .error _ => none

/-- The GRANT code of an operation (R55). -/
def encode : Instr → Grant
  | .none => 0b000#3
  | .slow => 0b001#3
  | .fast => 0b010#3
  | .start => 0b100#3
  | .pause => 0b101#3
  | .resetAction => 0b110#3
  | .spur => 0b111#3

/-- The mnemonic of an operation (R55, R60). -/
def Instr.mnemonic : Instr → String
  | .none => "NONE"
  | .slow => "SLOW"
  | .fast => "FAST"
  | .start => "START"
  | .pause => "PAUSE"
  | .resetAction => "RESET"
  | .spur => "SPUR"

end Sys2Proof
end

