-- ==== Sys2Proof/Machine/Operands.lean ====
section
/-!
DEFINITION. The bit-field helpers of the spec's notation (spec/00_scope.md R9, R11): the only operand assembly in the
block is the extraction of a digit (spec/30_encoding.md R57).
-/
namespace Sys2Proof.Machine

/-- `nib(v, i)`: digit i of a BCD value (R11). -/
def nib (v : EtWord) (i : Nat) : Digit := v.extractLsb' (4 * i) 4

/-- `setnib(v, i, d)`: v with digit i replaced by d (R11). -/
def setNib (v : EtWord) (i : Nat) (d : Digit) : EtWord :=
  (v &&& ~~~(0xF#16 <<< (4 * i))) ||| (d.setWidth 16 <<< (4 * i))

/-- `v[i] <- b` for a register of numbered bits (R9, R10). -/
def setBit {w : Nat} (v : BitVec w) (i : Nat) (b : Bool) : BitVec w :=
  if b then v ||| (1#w <<< i) else v &&& ~~~(1#w <<< i)

/-- `onehot_low5(p)`: five ones but for bit p (R11, R52). -/
def onehotLow5 (p : Nat) : SelPattern := ~~~(1#5 <<< p)

/-- ET's high byte, where a harness shows ET as two bytes: digits 3 and 2 (R42). -/
def etHigh (v : EtWord) : BitVec 8 := v.extractLsb' 8 8

/-- ET's low byte: digits 1 and 0 (R42). -/
def etLow (v : EtWord) : BitVec 8 := v.extractLsb' 0 8

end Sys2Proof.Machine
end

