-- ==== Sys2Proof/Machine/Params.lean ====
section
/-!
DEFINITION. The values spec/00_scope.md R7 gives the parameters, and SEG_TABLE (spec/42_fast_tick_multiplexer.md R91).
-/
namespace Sys2Proof.Machine

/-- SEG_TABLE (R91), digits 0 to 9. UNVERIFIED, unsafe: log entry 5. -/
def segTable : Vector SegPattern 10 :=
  #v[0xC0, 0xF9, 0xA4, 0xB0, 0x99, 0x92, 0x82, 0xF8, 0x80, 0x90]

/-- The parameters of the block (R7), with the two OPEN ones taken from Config. UNVERIFIED, unsafe: log entry 5. -/
def params : Params where
  refClkHz       := 1000000
  fastDiv        := 2000
  slowPrescale   := 2
  slowDiv        := 50000
  incNibble      := 1
  etMax          := 0x9990#16
  segTable       := segTable
  codecInvalid   := 0xFF#8
  sepPattern     := Config.sepPattern
  btnRank        := Config.btnRank
  debounceCycles := 0

/-- DB_W: the smallest width that holds DEBOUNCE_CYCLES (R31). No bit is needed to hold 0. DEDUCED, safe: log entry 6. -/
def dbWidth (debounceCycles : Nat) : Nat :=
  if debounceCycles = 0 then 0 else debounceCycles.log2 + 1

/-- DB_W of the block (R31), for its DEBOUNCE_CYCLES. -/
def dbW : Nat := dbWidth params.debounceCycles

end Sys2Proof.Machine
end

