-- ==== Sys2Proof/Machine/State.lean ====
section
/-!
DEFINITION. The state of the block (spec/10_state.md R20 to R33, R36), the ways a step can stop, and the state after
system reset (spec/70_reset_and_hazards.md R171). There is no memory and no program counter (R21, R40).
DEDUCED, safe: log entry 7; the trace and the cycle number stand in State by log entry 10 (DEDUCED, safe).
-/
namespace Sys2Proof.Machine

/-- A write to an output register (R12). -/
inductive OutWrite where
  | segOut (v : SegPattern)
  | selOut (v : SelPattern)
  deriving DecidableEq, Repr

/-- One `emit` event of the output trace, with its cycle number (R12, R36). -/
structure Event where
  cycle : Nat
  write : OutWrite
  deriving DecidableEq, Repr

/-- The state of the block. -/
structure State where
  /-- ET, elapsed time in packed BCD (R22). -/
  et       : EtWord
  /-- RF, the run flag (R23). -/
  rf       : Bool
  /-- POS, the multiplexer's position (R24). -/
  pos      : Position
  /-- SEG_OUT, the segment output register (R25). -/
  segOut   : SegPattern
  /-- SEL_OUT, the digit-select output register (R26). -/
  selOut   : SelPattern
  /-- PEND_SLOW (R27). -/
  pendSlow : Bool
  /-- PEND_FAST (R28). -/
  pendFast : Bool
  /-- IFG, the button port's pending indicators (R29). -/
  ifg      : Indicators
  /-- BTN_PREV, the button levels of the previous cycle (R30). -/
  btnPrev  : ButtonLevels
  /-- DB_CNT[0..2], the debounce lockout counters, DB_W bits each (R31): with DEBOUNCE_CYCLES = 0 they have no bit and
  are constantly 0. -/
  dbCnt    : Vector (BitVec dbW) 3
  /-- FAST_CNT (R32). -/
  fastCnt  : Counter
  /-- SLOW_PRE (R33). -/
  slowPre  : Counter
  /-- SLOW_CNT (R33). -/
  slowCnt  : Counter
  /-- The number of the cycle to come: 0 for the first cycle after system reset (R139, R170). -/
  cycle    : Nat
  /-- The output trace since system reset, oldest event first (R36, R171). -/
  trace    : List Event
  /-- The model's own: the inputs of the coming cycles that a stimulus has fixed, the next cycle's first (R60 level 2).
  DESIGN CHOICE, safe: log entry 1. -/
  inputs   : List Pins
  /-- The model's own: how many free inputs have been drawn. DESIGN CHOICE, safe: log entry 1. -/
  draws    : Nat
  deriving DecidableEq, Repr

/-- The reasons for a fault. There is none: no operation faults or is stuck on any representable state (R131, R165),
so nobody raises one. Safe: nothing is hidden behind a fault. -/
inductive Fault where
  deriving DecidableEq, Repr

/-- The reasons for a refusal. -/
inductive Refusal where
  /-- An operation without a meaning in this model. Raised by `exec` alone, and by none of its arms now. Safe: the run
  stops. -/
  | notModelled (mnemonic : String)
  /-- GRANT = 0b011 applied directly (R58 (a), R63, R165). Raised by `execute`; the arbiter never produces the code.
  Safe: the run stops, and no run of the hardware is removed. -/
  | reservedGrant
  deriving DecidableEq, Repr

/-- ResetState (R171). The last two fields are the model's own: nothing fixed and nothing drawn.
DESIGN CHOICE, safe: log entry 2. -/
def State.reset : State where
  et       := 0x0000#16
  rf       := false
  pos      := 0#3
  segOut   := 0xFF#8
  selOut   := 0x1F#5
  pendSlow := false
  pendFast := false
  ifg      := 0b0000#4
  btnPrev  := 0b111#3
  dbCnt    := Vector.replicate 3 (BitVec.ofNat _ 0)
  fastCnt  := 0#16
  slowPre  := 0#16
  slowCnt  := 0#16
  cycle    := 0
  trace    := []
  inputs   := []
  draws    := 0

end Sys2Proof.Machine
end

