-- ==== Sys2Proof/Machine/Ops.lean ====
section
/-!
DEFINITION. The named operations over the registers: whole-register writes (spec/20_memory.md R44), output writes with
their events (spec/00_scope.md R12), service entry (spec/60_exceptions.md R150), system reset
(spec/70_reset_and_hazards.md R170) and the inputs of a cycle (spec/10_state.md R34). The block takes no exception and
returns from none (R131, R151); service entry stands in their place.
-/
namespace Sys2Proof.Machine

/-- The outcome of one operation or one step. -/
abbrev Result := Host.Outcome State Fault Refusal

/-! Register writes. -/

/-- ET <- v. -/
def State.setEt (s : State) (v : EtWord) : State := { s with et := v }
/-- RF <- b. -/
def State.setRf (s : State) (b : Bool) : State := { s with rf := b }
/-- POS <- p. -/
def State.setPos (s : State) (p : Position) : State := { s with pos := p }
/-- PEND_SLOW <- b. -/
def State.setPendSlow (s : State) (b : Bool) : State := { s with pendSlow := b }
/-- PEND_FAST <- b. -/
def State.setPendFast (s : State) (b : Bool) : State := { s with pendFast := b }
/-- IFG <- v. -/
def State.setIfg (s : State) (v : Indicators) : State := { s with ifg := v }
/-- BTN_PREV <- v. -/
def State.setBtnPrev (s : State) (v : ButtonLevels) : State := { s with btnPrev := v }
/-- DB_CNT[i] <- v. -/
def State.setDbCnt (s : State) (i : Fin 3) (v : BitVec dbW) : State :=
  { s with dbCnt := s.dbCnt.set i v }
/-- FAST_CNT <- v. -/
def State.setFastCnt (s : State) (v : Counter) : State := { s with fastCnt := v }
/-- SLOW_PRE <- v. -/
def State.setSlowPre (s : State) (v : Counter) : State := { s with slowPre := v }
/-- SLOW_CNT <- v. -/
def State.setSlowCnt (s : State) (v : Counter) : State := { s with slowCnt := v }

/-! Output writes: the register takes the value and the event joins the trace, even when the value is the register's
own (R12, R36, R46). -/

/-- emit SEG_OUT(v). -/
def State.emitSeg (s : State) (v : SegPattern) : State :=
  { s with segOut := v, trace := s.trace ++ [⟨s.cycle, .segOut v⟩] }
/-- emit SEL_OUT(v). -/
def State.emitSel (s : State) (v : SelPattern) : State :=
  { s with selOut := v, trace := s.trace ++ [⟨s.cycle, .selOut v⟩] }

/-! Service entry. -/

/-- What the grant itself does before the operation runs: SLOW and FAST lose their pending bit, the button operations
clear their own (R150, R152). Nothing is saved and no mode changes. -/
def State.acknowledge (s : State) (g : Grant) : State :=
  let s := if g = 0b001#3 then s.setPendSlow false else s
  if g = 0b010#3 then s.setPendFast false else s

/-! Inputs and the end of a cycle. -/

/-- The input sample of the coming cycle: what a stimulus has fixed, else a free draw (R34; log entry 1). -/
def State.pins (s : State) : Pins :=
  match s.inputs with
  | p :: _ => p
  | [] => Config.freePins s.draws

/-- The input sample is used up (log entry 1). -/
def State.dropInput (s : State) : State :=
  match s.inputs with
  | _ :: rest => { s with inputs := rest }
  | [] => { s with draws := s.draws + 1 }

/-- The next cycle has the next number (R139). -/
def State.nextCycle (s : State) : State := { s with cycle := s.cycle + 1 }

/-- A cycle with RST = 1: ResetState, whatever the state was and whatever the other inputs are (R152, R170, R171).
Only the environment's inputs go on. -/
def State.systemReset (s : State) : State :=
  { State.reset with inputs := s.dropInput.inputs, draws := s.dropInput.draws }

end Sys2Proof.Machine
end

