-- ==== Sys2Proof/Machine/Buttons.lean ====
section
/-!
DEFINITION. The button actions, the spurious service and the idle operation (spec/43_button_run_control.md R110 to
R115).
-/
namespace Sys2Proof.Machine

/-- `BTN_SELECT(IFG)`: the lowest pending line, or SPUR if no button line is pending (R110). -/
def btnSelect (ifg : Indicators) : Instr :=
  if ifg.getLsbD 0 then .start
  else if ifg.getLsbD 1 then .pause
  else if ifg.getLsbD 2 then .resetAction
  else .spur

/-- A button action clears its own line's indicator (R46, R111 to R113). -/
def State.clearLine (s : State) (i : Nat) : State := s.setIfg (setBit s.ifg i false)

/-- START (R111). -/
def execStart (s : State) : Result := .next ((s.clearLine 0).setRf true)

/-- PAUSE (R112). -/
def execPause (s : State) : Result := .next ((s.clearLine 1).setRf false)

/-- RESET, the reset button's action (R113). -/
def execReset (s : State) : Result := .next (((s.clearLine 2).setEt 0x0000#16).setRf false)

/-- SPUR (R114). -/
def execSpur (s : State) : Result := .next (s.setIfg 0b0000#4)

/-- NONE (R115). -/
def execNone (s : State) : Result := .next s

end Sys2Proof.Machine
end

