-- ==== Sys2Proof/Machine/Flags.lean ====
section
/-!
DEFINITION. What is computed from registers and is no state: the overflow comparison (spec/41_slow_tick_bcd_increment.md
R73), PEND_BTN (spec/60_exceptions.md R146) and the effective states (spec/43_button_run_control.md R120).
-/
namespace Sys2Proof.Machine

/-- Overflow detection: equality with ET_MAX on all 16 bits (R73). -/
def atMax (c : Params) (et : EtWord) : Bool := et == c.etMax

/-- PEND_BTN, the button interrupt request (R146). -/
def State.pendBtn (s : State) : Bool :=
  s.ifg.getLsbD 0 || s.ifg.getLsbD 1 || s.ifg.getLsbD 2 || s.ifg.getLsbD 3

/-- The effective states (R120). -/
inductive Effective where
  | idle
  | running
  | paused
  | stoppedOverflow
  deriving DecidableEq, Repr

/-- The effective state, a classification of (RF, ET) (R120). -/
def State.effective (c : Params) (s : State) : Effective :=
  if s.rf then .running
  else if s.et == 0x0000#16 then .idle
  else if atMax c s.et then .stoppedOverflow
  else .paused

end Sys2Proof.Machine
end

