-- ==== Sys2Proof/Machine/Arbiter.lean ====
section
/-!
DEFINITION. The priority arbiter (spec/60_exceptions.md R146, R147).
-/
namespace Sys2Proof.Machine

/-- The button source ranks above the slow source (R147, HIGH). -/
def btnAboveSlow : BtnRank → Bool
  | .high => true
  | .mid => false
  | .low => false

/-- The button source ranks above the fast source (R147, HIGH and MID). -/
def btnAboveFast : BtnRank → Bool
  | .high => true
  | .mid => true
  | .low => false

/-- `Arbitrate(s)` (R147): a pending source is granted unless a pending source above it is there. The rank is asked
only where two sources meet, so that a single pending source is granted whatever the rank is. DESIGN CHOICE of its form,
safe: log entry 11. -/
def arbitrate (rank : BtnRank) (s : State) : Grant :=
  if s.pendSlow && !(s.pendBtn && btnAboveSlow rank) then encode .slow
  else if s.pendBtn && !(s.pendFast && !btnAboveFast rank) then encode (btnSelect s.ifg)
  else if s.pendFast then encode .fast
  else encode .none

/-- The state with the pending indicators under which the arbiter grants `i`, whatever BTN_RANK is (R147, R110): no
indicator is changed but those that would grant another operation. DESIGN CHOICE, safe: log entry 8. -/
def State.pendFor (s : State) : Instr → State
  | .none => ((s.setPendSlow false).setPendFast false).setIfg 0b0000#4
  | .slow => (s.setPendSlow true).setIfg 0b0000#4
  | .fast => ((s.setPendSlow false).setPendFast true).setIfg 0b0000#4
  | .start => ((s.setPendSlow false).setPendFast false).setIfg (s.ifg ||| 0b0001#4)
  | .pause => ((s.setPendSlow false).setPendFast false).setIfg ((s.ifg &&& 0b1100#4) ||| 0b0010#4)
  | .resetAction => ((s.setPendSlow false).setPendFast false).setIfg ((s.ifg &&& 0b1000#4) ||| 0b0100#4)
  | .spur => ((s.setPendSlow false).setPendFast false).setIfg 0b1000#4

/-- The inputs of a cycle in which no input is given: no button pressed, no other edge, no reset (R60, the values of
omitted fields). -/
def pinsReleased : Pins := ⟨0b111#3, false, false⟩

/-- The next cycle's inputs are fixed to `p`. -/
def State.withPins (s : State) (p : Pins) : State := { s with inputs := p :: s.inputs.tail }

end Sys2Proof.Machine
end

