-- ==== Sys2Proof/Machine/Capture.lean ====
section
/-!
DEFINITION. The capture phase of a cycle: tick generator, edge detector with debounce lockout, and OTHER_EDGE
(spec/60_exceptions.md R137, R138, R142 to R144, R152).
-/
namespace Sys2Proof.Machine

/-- A counter's last value, DIV - 1, for a divisor in 1..65536 (R7, R137). -/
def lastCount (div : Nat) : Counter := BitVec.ofNat 16 (div - 1)

/-- CNT + 1 (R137, R138). At 0xFFFF, which only a launch state outside R37 (f) holds, the spec does not say what the
16-bit counter takes: a free value. DESIGN CHOICE, safe: log entry 15. -/
def countUp (k : TickCounter) (v : Counter) : Counter :=
  if v = 0xFFFF#16 then Config.countPastWidth k else v + 1#16

/-- TickFast (R137). -/
def tickFast (c : Params) (s : State) : State :=
  if s.fastCnt = lastCount c.fastDiv then (s.setFastCnt 0#16).setPendFast true
  else s.setFastCnt (countUp .fastCnt s.fastCnt)

/-- TickSlow (R138). -/
def tickSlow (c : Params) (s : State) : State :=
  if s.slowPre = lastCount c.slowPrescale then
    let s := s.setSlowPre 0#16
    if s.slowCnt = lastCount c.slowDiv then (s.setSlowCnt 0#16).setPendSlow true
    else s.setSlowCnt (countUp .slowCnt s.slowCnt)
  else s.setSlowPre (countUp .slowPre s.slowPre)

/-- The registers of the edge detector, for lockout counters of any width (R29 to R31), so that it can be spoken of for
every DEBOUNCE_CYCLES and not only for the value whose DB_W State has. -/
structure EdgeFront (w : Nat) where
  ifg     : Indicators
  btnPrev : ButtonLevels
  dbCnt   : Vector (BitVec w) 3
  deriving DecidableEq, Repr

/-- The edge detector's registers in the state. -/
def State.front (s : State) : EdgeFront dbW := ⟨s.ifg, s.btnPrev, s.dbCnt⟩

/-- The edge detector's registers are written. -/
def State.setFront (s : State) (f : EdgeFront dbW) : State :=
  { s with ifg := f.ifg, btnPrev := f.btnPrev, dbCnt := f.dbCnt }

/-- One line of EdgeDetect (R142), with the lockout of R143. -/
def edgeLine {w : Nat} (debounceCycles : Nat) (btnIn : ButtonLevels) (f : EdgeFront w) (i : Fin 3) : EdgeFront w :=
  let press := f.btnPrev.getLsbD i && !btnIn.getLsbD i
  let locked := f.dbCnt[i] != 0#w
  let f := if locked then { f with dbCnt := f.dbCnt.set i (f.dbCnt[i] - 1#w) } else f
  let edge := press && !locked
  let f := if edge then
      { f with ifg := setBit f.ifg i true, dbCnt := f.dbCnt.set i (BitVec.ofNat w debounceCycles) }
    else f
  { f with btnPrev := setBit f.btnPrev i (btnIn.getLsbD i) }

/-- EdgeDetect: the three lines in turn (R142). -/
def edgeDetect {w : Nat} (debounceCycles : Nat) (btnIn : ButtonLevels) (f : EdgeFront w) : EdgeFront w :=
  edgeLine debounceCycles btnIn (edgeLine debounceCycles btnIn (edgeLine debounceCycles btnIn f 0) 1) 2

/-- EdgeDetect on the state's registers. -/
def detectEdges (c : Params) (btnIn : ButtonLevels) (s : State) : State :=
  s.setFront (edgeDetect c.debounceCycles btnIn s.front)

/-- OTHER_EDGE sets IFG[3] (R144). -/
def otherEdge (edge : Bool) (s : State) : State :=
  if edge then s.setIfg (setBit s.ifg 3 true) else s

/-- Phase 2 of a cycle (R152). State's lockout counters hold the DEBOUNCE_CYCLES of `params` (R31); a claim about another
value speaks of `edgeDetect` at its own width. -/
def capture (c : Params) (p : Pins) (s : State) : State :=
  otherEdge p.otherEdge (detectEdges c p.btnIn (tickSlow c (tickFast c s)))

end Sys2Proof.Machine
end

