-- ==== Sys2Proof/Machine/FastTick.lean ====
section
/-!
DEFINITION. The fast tick: segment codec, select encoder and the FAST operation (spec/42_fast_tick_multiplexer.md R90,
R94, R95).
-/
namespace Sys2Proof.Machine

/-- `SEG_CODE(d)` (R90, R92). -/
def segCode (c : Params) (d : Digit) : SegPattern :=
  if h : d.toNat < 10 then c.segTable[d.toNat] else c.codecInvalid

/-- `SELECT(p)` (R94). -/
def select (p : Nat) : SelPattern := onehotLow5 p

/-- One refresh: all select lines off, then the pattern, then the position's own line (R95, R96). -/
def State.refresh (s : State) (pattern : SegPattern) (p : Nat) : State :=
  ((s.emitSel 0x1F#5).emitSeg pattern).emitSel (select p)

/-- FAST for given parameters (R95); a corrupted position is repaired and nothing is emitted (R97). -/
def fastTick (c : Params) (s : State) : State :=
  let p := s.pos
  if p ≤ 3#3 then (s.refresh (segCode c (nib s.et p.toNat)) p.toNat).setPos (p + 1#3)
  else if p = 4#3 then (s.refresh c.sepPattern 4).setPos 0#3
  else s.setPos 0#3

/-- FAST (R95). -/
def execFast (s : State) : Result := .next (fastTick params s)

end Sys2Proof.Machine
end

