-- ==== Sys2Proof/Machine/SlowTick.lean ====
section
/-!
DEFINITION. The slow tick: the decimal increment and the SLOW operation (spec/41_slow_tick_bcd_increment.md R70, R72).
-/
namespace Sys2Proof.Machine

/-- The carry loop of BCD_INC: `n` digits are left, of which digit `i` is the next to receive the carry (R70). The
carry out of the last digit is discarded. -/
def bcdCarry : (n i : Nat) → EtWord → EtWord
  | 0, _, r => r
  | n + 1, i, r =>
    let d := nib r i
    if 9#4 ≤ d then bcdCarry n (i + 1) (setNib r i 0#4) else setNib r i (d + 1#4)

/-- `BCD_INC(v)`, with INC_NIBBLE as an argument (R70). -/
def bcdInc (incNibble : Nat) (v : EtWord) : EtWord := bcdCarry (4 - incNibble) incNibble v

/-- SLOW for given parameters (R72). -/
def slowTick (c : Params) (s : State) : State :=
  if s.rf then
    if atMax c s.et then s.setRf false
    else
      let t := s.setEt (bcdInc c.incNibble s.et)
      if atMax c t.et then t.setRf false else t
  else s

/-- SLOW (R72). -/
def execSlow (s : State) : Result := .next (slowTick params s)

end Sys2Proof.Machine
end

