-- ==== Sys2Proof/Machine/Dispatch.lean ====
section
/-!
DEFINITION. One arm per operation of spec/opcode_table.json (spec/30_encoding.md R63).
-/
namespace Sys2Proof.Machine

def exec (i : Instr) (s : State) : Host.Outcome State Fault Refusal :=
  match i with
  | .none => Sys2Proof.Machine.execNone s
  | .slow => Sys2Proof.Machine.execSlow s
  | .fast => Sys2Proof.Machine.execFast s
  | .start => Sys2Proof.Machine.execStart s
  | .pause => Sys2Proof.Machine.execPause s
  | .resetAction => Sys2Proof.Machine.execReset s
  | .spur => Sys2Proof.Machine.execSpur s

end Sys2Proof.Machine
end

