-- ==== Sys2Proof/Machine/Cycle.lean ====
section
/-!
DEFINITION. Applying an operation by its code (spec/30_encoding.md R63) and the one step per reference-clock cycle
(spec/60_exceptions.md R152).
-/
namespace Sys2Proof.Machine

/-- `Execute(g, s)`: the operation of GRANT code g, refusing the reserved code (R63). -/
def execute (g : Grant) (s : State) : Result :=
  match decode g with
  | .ok i => exec i s
  | .error _ => .refused .reservedGrant

/-- Phase 1 of a cycle: arbitrate, service entry, and the granted operation as one transition (R150, R152). BTN_RANK is
OPEN, so it is an argument (R7). -/
def service (rank : BtnRank) (s : State) : Result :=
  let g := arbitrate rank s
  execute g (s.acknowledge g)

/-- What follows a completed service: capture, and the inputs and the number of the next cycle (R139, R152). -/
def finishCycle (p : Pins) (s : State) : State := (capture params p s).dropInput.nextCycle

/-- `Cycle(s, in)` with the inputs the state holds or draws (R152). -/
def cycle (rank : BtnRank) (s : State) : Result :=
  if s.pins.rst then .next s.systemReset
  else
    match service rank s with
    | .next t => .next (finishCycle s.pins t)
    | .fault r => .fault r
    | .refused r => .refused r

end Sys2Proof.Machine
end

