-- ==== Sys2Proof/Machine/Step.lean ====
section
/-!
DEFINITION. The step: one reference-clock cycle (spec/60_exceptions.md R152).
-/
namespace Sys2Proof.Machine

/-- One step of the block, whose BTN_RANK is the OPEN constant of Config. -/
def step (s : State) : Host.Outcome State Fault Refusal := cycle params.btnRank s

/-- The state in which the next step grants the operation of an opcode-table word. The block fetches nothing (R21,
R49): what makes an operation run is its pending indicator, in a cycle without system reset. DESIGN CHOICE,
safe: log entry 8. A word that
is no granted operation changes nothing. -/
def State.withFetchWord (s : State) (nbits w : Nat) : State :=
  match decodeTableWord nbits w with
  | some i => (s.pendFor i).withPins pinsReleased
  | none => s

end Sys2Proof.Machine
end

