-- ==== Sys2Proof/Machine/Stimulus.lean ====
section
/-!
DEFINITION. The stimulus language of spec/30_encoding.md R60 to R62: operation level, cycle level, SET lines, the
pseudo-instructions, the textual syntax and the binary form. It is how a test harness drives the block; the block
itself holds no program. DESIGN CHOICE on the points the rules leave open, safe: log entry 13.
-/
namespace Sys2Proof.Machine

/-- A register a SET line may name (R60; spec/10_state.md R20). -/
inductive Reg where
  | et
  | rf
  | pos
  | segOut
  | selOut
  | pendSlow
  | pendFast
  | ifg
  | btnPrev
  | dbCnt (i : Fin 3)
  | fastCnt
  | slowPre
  | slowCnt
  deriving DecidableEq, Repr

/-- One `reg=value` of a SET line. -/
structure Assignment where
  reg   : Reg
  value : Nat
  deriving DecidableEq, Repr

/-- A button named by PRESS (R61). -/
inductive Button where
  | start
  | pause
  | reset
  deriving DecidableEq, Repr

/-- One line of a stimulus (R60, R61). -/
inductive Line where
  /-- One mnemonic: Execute once. -/
  | op (i : Instr)
  /-- `REP n OP`. -/
  | rep (n : Nat) (i : Instr)
  /-- `FRAME`. -/
  | frame
  /-- `SECOND`. -/
  | second
  /-- `PRESS button`. -/
  | press (b : Button)
  /-- `CYC n BTN=.. OTHER=.. RST=..`: n cycles with constant inputs. -/
  | cyc (n : Nat) (p : Pins)
  /-- `SET reg=value ...`. -/
  | set (as : List Assignment)
  deriving DecidableEq, Repr

/-- A value fits the register (R44: an access has the register's own width). -/
def Assignment.fits (a : Assignment) : Bool :=
  match a.reg with
  | .et | .fastCnt | .slowPre | .slowCnt => decide (a.value < 2 ^ 16)
  | .rf | .pendSlow | .pendFast => decide (a.value < 2)
  | .pos | .btnPrev => decide (a.value < 2 ^ 3)
  | .segOut => decide (a.value < 2 ^ 8)
  | .selOut => decide (a.value < 2 ^ 5)
  | .ifg => decide (a.value < 2 ^ 4)
  | .dbCnt _ => decide (a.value < 2 ^ dbW)

/-- The register takes the value. SET is the harness's hand, not the block's: it emits nothing (R12, R161). -/
def Assignment.apply (a : Assignment) (s : State) : State :=
  match a.reg with
  | .et => s.setEt (BitVec.ofNat 16 a.value)
  | .rf => s.setRf (a.value != 0)
  | .pos => s.setPos (BitVec.ofNat 3 a.value)
  | .segOut => { s with segOut := BitVec.ofNat 8 a.value }
  | .selOut => { s with selOut := BitVec.ofNat 5 a.value }
  | .pendSlow => s.setPendSlow (a.value != 0)
  | .pendFast => s.setPendFast (a.value != 0)
  | .ifg => s.setIfg (BitVec.ofNat 4 a.value)
  | .btnPrev => s.setBtnPrev (BitVec.ofNat 3 a.value)
  | .dbCnt i => s.setDbCnt i (BitVec.ofNat _ a.value)
  | .fastCnt => s.setFastCnt (BitVec.ofNat 16 a.value)
  | .slowPre => s.setSlowPre (BitVec.ofNat 16 a.value)
  | .slowCnt => s.setSlowCnt (BitVec.ofNat 16 a.value)

/-! Expansion and running. -/

/-- The action of a button (R61). -/
def Button.action : Button → Instr
  | .start => .start
  | .pause => .pause
  | .reset => .resetAction

/-- The operations a line stands for at the operation level (R60, R61); a CYC line stands for none (DESIGN CHOICE, safe:
log entry 13). -/
def Line.ops : Line → List Instr
  | .op i => [i]
  | .rep n i => List.replicate n i
  | .frame => List.replicate 5 .fast
  | .second => List.replicate 10 .slow
  | .press b => [b.action]
  | .cyc _ _ => []
  | .set _ => []

/-- The binary form of an operation-level program: one GRANT code per operation (R62); a SET line has none, as in the
programs of spec/95 section 3. R62 gives no binary form to a stimulus with a CYC line: here the line has no code and is
left out. DESIGN CHOICE, safe: log entry 13. -/
def binaryForm (ls : List Line) : List Grant := (ls.flatMap Line.ops).map encode

/-- Go on with the next state, stop at a fault or a refusal. -/
def andThen (r : Result) (f : State → Result) : Result :=
  match r with
  | .next t => f t
  | .fault e => .fault e
  | .refused e => .refused e

/-- Operations applied one after the other (R60 level 1). -/
def runOps : List Instr → State → Result
  | [], s => .next s
  | i :: rest, s => andThen (exec i s) (runOps rest)

/-- A grant sequence replayed by its codes, the reserved one refused (R62, R63). -/
def runCodes : List Grant → State → Result
  | [], s => .next s
  | g :: rest, s => andThen (execute g s) (runCodes rest)

/-- `n` cycles with the inputs held at `p` (R60 level 2), for a given BTN_RANK. -/
def runCycles (rank : BtnRank) : Nat → Pins → State → Result
  | 0, _, s => .next s
  | n + 1, p, s => andThen (cycle rank (s.withPins p)) (runCycles rank n p)

/-- One line run (R60); the assignments of a SET line take effect from left to right (DESIGN CHOICE, safe: log
entry 13). -/
def runLine (rank : BtnRank) (l : Line) (s : State) : Result :=
  match l with
  | .cyc n p => runCycles rank n p s
  | .set as => .next (as.foldl (fun t a => a.apply t) s)
  | l => runOps l.ops s

/-- A stimulus run, line by line (R60). R60 names two levels and does not say whether one stimulus may mix their lines:
here it may. DESIGN CHOICE, safe: log entry 13. -/
def runStimulus (rank : BtnRank) : List Line → State → Result
  | [], s => .next s
  | l :: rest, s => andThen (runLine rank l s) (runStimulus rank rest)

/-! Text. -/

/-- The parts of a text between separators. -/
def splitAt (sep : Char → Bool) : List Char → List (List Char)
  | [] => [[]]
  | c :: cs =>
    match splitAt sep cs with
    | [] => [[c]]
    | w :: ws => if sep c then [] :: w :: ws else (c :: w) :: ws

/-- The words of a line, its comment left out (R60). -/
def wordsOf (line : List Char) : List String :=
  ((splitAt (fun c => c == ' ' || c == '\t') (line.takeWhile (· != ';'))).filter (!·.isEmpty)).map String.ofList

/-- The value of a digit character. -/
def digitValue (c : Char) : Nat :=
  let n := c.toNat
  if 48 ≤ n ∧ n ≤ 57 then n - 48
  else if 65 ≤ n ∧ n ≤ 70 then n - 55
  else if 97 ≤ n ∧ n ≤ 102 then n - 87
  else 16

/-- Digits of a base; none where a character is no digit of it. -/
def parseDigits (base : Nat) : (value : Nat) → List Char → Option Nat
  | value, [] => some value
  | value, c :: cs => if digitValue c < base then parseDigits base (value * base + digitValue c) cs else none

/-- A number: `0x` hexadecimal, `0b` binary (R9), else decimal. -/
def parseNumber (w : String) : Option Nat :=
  match w.toList with
  | [] => none
  | '0' :: 'x' :: [] => none
  | '0' :: 'b' :: [] => none
  | '0' :: 'x' :: ds => parseDigits 16 0 ds
  | '0' :: 'b' :: ds => parseDigits 2 0 ds
  | ds => parseDigits 10 0 ds

/-- Exactly `n` binary digits, as BTN= and a code of the binary form have them. -/
def parseBits (n : Nat) (w : String) : Option Nat :=
  if w.toList.length = n then parseDigits 2 0 w.toList else none

/-- The operation of a mnemonic (R55). -/
def parseMnemonic (w : String) : Option Instr :=
  [Instr.none, .slow, .fast, .start, .pause, .resetAction, .spur].find? fun i => i.mnemonic == w

/-- A word `key=value` taken apart. -/
def parseField (w : String) : Option (String × String) :=
  match splitAt (· == '=') w.toList with
  | [k, v] => some (String.ofList k, String.ofList v)
  | _ => none

/-- The register of a name (R20). -/
def parseReg : String → Option Reg
  | "ET" => some .et
  | "RF" => some .rf
  | "POS" => some .pos
  | "SEG_OUT" => some .segOut
  | "SEL_OUT" => some .selOut
  | "PEND_SLOW" => some .pendSlow
  | "PEND_FAST" => some .pendFast
  | "IFG" => some .ifg
  | "BTN_PREV" => some .btnPrev
  | "DB_CNT[0]" => some (.dbCnt 0)
  | "DB_CNT[1]" => some (.dbCnt 1)
  | "DB_CNT[2]" => some (.dbCnt 2)
  | "FAST_CNT" => some .fastCnt
  | "SLOW_PRE" => some .slowPre
  | "SLOW_CNT" => some .slowCnt
  | _ => none

/-- One `reg=value` (R60); a value too wide for the register is no assignment. DESIGN CHOICE,
safe: log entry 13. -/
def parseAssignment (w : String) : Option Assignment := do
  let (k, v) ← parseField w
  let r ← parseReg k
  let n ← parseNumber v
  if (Assignment.mk r n).fits then some ⟨r, n⟩ else none

/-- One field of a CYC line changes the inputs; an omitted field keeps its value (R60 level 2). R60 writes the fields in
the order BTN, OTHER, RST, once each: here any order is read, and the last of a repeated field counts. DESIGN CHOICE,
safe: log entry 13. -/
def parsePinField (p : Pins) (w : String) : Option Pins := do
  let (k, v) ← parseField w
  match k with
  | "BTN" => (parseBits 3 v).map fun n => { p with btnIn := BitVec.ofNat 3 n }
  | "OTHER" => (parseBits 1 v).map fun n => { p with otherEdge := n != 0 }
  | "RST" => (parseBits 1 v).map fun n => { p with rst := n != 0 }
  | _ => none

/-- One line of text; a line without words gives no line (R60, R61). -/
def parseLine (ws : List String) : Option (List Line) :=
  match ws with
  | [] => some []
  | ["FRAME"] => some [.frame]
  | ["SECOND"] => some [.second]
  | ["PRESS", "start"] => some [.press .start]
  | ["PRESS", "pause"] => some [.press .pause]
  | ["PRESS", "reset"] => some [.press .reset]
  | ["REP", n, op] => do
    let n ← parseNumber n
    let i ← parseMnemonic op
    some [.rep n i]
  | "CYC" :: n :: fields => do
    let n ← parseNumber n
    let p ← fields.foldlM parsePinField pinsReleased
    some [.cyc n p]
  | "SET" :: fields => do
    let as ← fields.mapM parseAssignment
    some [.set as]
  | [op] => (parseMnemonic op).map fun i => [.op i]
  | _ => none

/-- A stimulus from its text; none where a line is not of the syntax. -/
def parseStimulus (text : String) : Option (List Line) :=
  ((splitAt (· == '\n') text.toList).mapM fun l => parseLine (wordsOf l)).map List.flatten

/-- A grant sequence from its binary form, codes of three digits (R62). R62 names neither comments nor line breaks: here
the text may hold both, as a stimulus may (R60), and a code ends at a space, a tab or the end of its line. DESIGN CHOICE,
safe: log entry 13. -/
def parseCodes (text : String) : Option (List Grant) :=
  ((splitAt (· == '\n') text.toList).flatMap wordsOf).mapM fun w => (parseBits 3 w).map (BitVec.ofNat 3)

end Sys2Proof.Machine
end

