-- ==== Sys2Proof/Safety.lean ====
section
/-!
DEFINITION. What counts as a good state and a good run: the reachable-state invariants (spec/10_state.md R37), the
counters in phase with the cycle number (spec/60_exceptions.md R139), and the output discipline of the trace
(spec/42_fast_tick_multiplexer.md R96). They are stated, not enforced (decision D29).
-/
namespace Sys2Proof.Machine

/-- Every digit is decimal (R22, R37 (a)). -/
def BcdDigits (v : EtWord) : Prop := ∀ i < 4, (nib v i).toNat ≤ 9

/-- No select line asserted, or exactly one (R26, R37 (d)). -/
def LegalSelect (v : SelPattern) : Prop := v = 0x1F#5 ∨ ∃ p < 5, v = onehotLow5 p

/-- The invariants of R37 that speak of one state, for the spec's parameters. -/
structure State.Reachable (s : State) : Prop where
  /-- R37 (a). -/
  digits   : BcdDigits s.et
  /-- R37 (b). -/
  digit0   : nib s.et 0 = 0#4
  /-- R37 (c). -/
  position : s.pos.toNat ≤ 4
  /-- R37 (d). -/
  select   : LegalSelect s.selOut
  /-- R37 (f), FAST_CNT. -/
  fastCnt  : s.fastCnt.toNat < params.fastDiv
  /-- R37 (f), SLOW_PRE. -/
  slowPre  : s.slowPre.toNat < params.slowPrescale
  /-- R37 (f), SLOW_CNT. -/
  slowCnt  : s.slowCnt.toNat < params.slowDiv
  /-- DB_CNT holds at most DEBOUNCE_CYCLES (R31, R143). -/
  dbCnt    : ∀ i : Fin 3, s.dbCnt[i].toNat ≤ params.debounceCycles

/-- The counters as functions of the number of cycles since system reset (R139; the table of
spec/95_test_vectors.md section 2.6). -/
structure State.InPhase (s : State) : Prop where
  fastCnt : s.fastCnt.toNat = s.cycle % 2000
  slowPre : s.slowPre.toNat = s.cycle % 2
  slowCnt : s.slowCnt.toNat = s.cycle / 2 % 50000

/-- The output registers after one event. -/
def OutWrite.apply : OutWrite → SegPattern × SelPattern → SegPattern × SelPattern
  | .segOut v, o => (v, o.2)
  | .selOut v, o => (o.1, v)

/-- The output registers after a trace that began at system reset (R36, R171). -/
def replay (trace : List Event) : SegPattern × SelPattern :=
  trace.foldl (fun o e => e.write.apply o) (State.reset.segOut, State.reset.selOut)

/-- SEG_OUT changes only while no select line is asserted (R96, R176), from a given value of SEL_OUT on. -/
def ghostFree : SelPattern → List Event → Bool
  | _, [] => true
  | sel, e :: rest =>
    match e.write with
    | .segOut _ => sel == 0x1F#5 && ghostFree sel rest
    | .selOut v => ghostFree v rest

/-- The trace tells the output registers, holds events of past cycles in their order, and shows no ghosting. -/
structure State.TraceTells (s : State) : Prop where
  outputs : replay s.trace = (s.segOut, s.selOut)
  past    : ∀ e ∈ s.trace, e.cycle < s.cycle
  ordered : s.trace.Pairwise fun a b => a.cycle ≤ b.cycle
  ghosts  : ghostFree State.reset.selOut s.trace = true

/-! Terms the claims use. -/

/-- The decimal number that the digits from digit `k` up spell, digit 3 the most significant (R71). -/
def decimalFrom (k : Nat) (v : EtWord) : Nat :=
  ((List.range (4 - k)).map fun j => (nib v (k + j)).toNat * 10 ^ j).sum

/-- The arbiter's sources (R147). -/
inductive Source where
  | slow
  | btn
  | fast
  deriving DecidableEq, Repr

/-- The sources in the order in which R147 asks them. -/
def sourceOrder : BtnRank → List Source
  | .high => [.btn, .slow, .fast]
  | .mid => [.slow, .btn, .fast]
  | .low => [.slow, .fast, .btn]

/-- A source is pending, and what it is then granted (R147). -/
def Source.request (s : State) : Source → Option Instr
  | .slow => if s.pendSlow then some .slow else none
  | .btn => if s.pendBtn then some (btnSelect s.ifg) else none
  | .fast => if s.pendFast then some .fast else none

/-- The events of one refresh in one cycle (R96). -/
def refreshEvents (cycle : Nat) (pattern : SegPattern) (sel : SelPattern) : List Event :=
  [⟨cycle, .selOut 0x1F#5⟩, ⟨cycle, .segOut pattern⟩, ⟨cycle, .selOut sel⟩]

/-- The pattern FAST shows at a position for a given ET (R101). -/
def shownAt (et : EtWord) (p : Nat) : SegPattern :=
  if p < 4 then segCode params (nib et p) else Config.sepPattern

/-- Two states that differ in nothing but the display: POS, SEG_OUT, SEL_OUT and the trace. -/
def SameButDisplay (s t : State) : Prop :=
  t = { s with pos := t.pos, segOut := t.segOut, selOut := t.selOut, trace := t.trace }

end Sys2Proof.Machine
end

