-- ==== Sys2Proof/Certificates/Slice0/Obligations.lean ====
section
/-!
DEFINITION. The statements for the provers. Each docstring names the rule of spec/ it formalises; where that rule is
the spec's own decision or derivation, it says so, and the statement's basis is 'derived'.
-/

open Sys2Proof Sys2Proof.Machine

/-! ## Encoding -/

/-- The GRANT codes of R55 (the spec's decision D23), bit by bit: each row of the opcode table, and the reserved code. -/
def Obligations.GrantCodesDecodeAsTabled : Prop :=
  decode 0b000#3 = .ok .none ∧ decode 0b001#3 = .ok .slow ∧ decode 0b010#3 = .ok .fast ∧
    decode 0b011#3 = .error .reservedGrant ∧ decode 0b100#3 = .ok .start ∧ decode 0b101#3 = .ok .pause ∧
    decode 0b110#3 = .ok .resetAction ∧ decode 0b111#3 = .ok .spur

/-- Decoding and encoding agree both ways, on codes and on numbers of any size (R55, R59, R63; decision D23). The rules
speak of 3-bit codes: that a number above three bits decodes to nothing is the model's own (log entry 9, DESIGN CHOICE). -/
def Obligations.DecodeAndEncodeAgree : Prop :=
  (∀ i : Instr, i.wellFormed = true → decode (encode i) = .ok i) ∧
    (∀ (g : Grant) (i : Instr), decode g = .ok i → encode i = g) ∧
    (∀ (w : Nat) (i : Instr), decodeWord w = .ok i → w = (encode i).toNat)

/-- The binary form of a stimulus, replayed code by code, does what its operations do (R60 to R62; decision D23), and a
replay that meets the reserved code stops there (R63). R62 gives a binary form to operation-level programs: that a
CYC line stands for no operation and has no code is the model's own (log entry 13, DESIGN CHOICE). -/
def Obligations.BinaryFormReplaysTheOperations : Prop :=
  (∀ (ls : List Line) (s : State), runCodes (binaryForm ls) s = runOps (ls.flatMap Line.ops) s) ∧
    (∀ (ops : List Instr) (rest : List Grant) (s : State),
      runCodes (ops.map encode ++ 0b011#3 :: rest) s = .refused .reservedGrant)

/-! ## Reset -/

/-- ResetState (R171, whose values for the outputs, the indicators, BTN_PREV and the counters are the spec's decisions
D12 to D14, D17, D18, D20 and D25), and its effective state Idle. The cycle number is no register of that table: that
numbering starts at 0 is R170's (decision D21), and the field that holds it is the model's own (log entry 10, DEDUCED). -/
def Obligations.ResetStateHoldsTheTabledValues : Prop :=
  let r := State.reset
  r.et = 0x0000#16 ∧ r.rf = false ∧ r.pos = 0#3 ∧ r.segOut = 0xFF#8 ∧ r.selOut = 0x1F#5 ∧ r.pendSlow = false ∧
    r.pendFast = false ∧ r.ifg = 0b0000#4 ∧ r.btnPrev = 0b111#3 ∧ (∀ i : Fin 3, r.dbCnt[i] = 0) ∧
    r.fastCnt = 0#16 ∧ r.slowPre = 0#16 ∧ r.slowCnt = 0#16 ∧ r.trace = [] ∧ r.cycle = 0 ∧
    r.effective params = .idle

/-- A cycle with RST = 1 leaves ResetState whatever the state and the other inputs were, and emits nothing (R170, R171,
R152; decision D21). What the environment has fixed or drawn goes on: that is the model's own (log entry 1,
DESIGN CHOICE). -/
def Obligations.ResetPinRestoresEveryRegister : Prop :=
  ∀ (s : State) (p : Pins), p.rst = true →
    step (s.withPins p) = .next { State.reset with inputs := s.inputs.tail, draws := s.draws }

/-! ## The slow tick -/

/-- SLOW (R72; its pre-check is decision D2, its maximum decision D1): code, grant, service entry and effect. -/
def Obligations.SlowServiceCountsAndStops : Prop :=
  decode 0b001#3 = .ok .slow ∧
    (∀ (rank : BtnRank) (s : State), arbitrate rank s = 0b001#3 → s.pendSlow = true) ∧
    (∀ s : State, s.acknowledge 0b001#3 = { s with pendSlow := false }) ∧
    (∀ s : State, s.rf = false → exec .slow s = .next s) ∧
    (∀ s : State, s.rf = true → s.et = 0x9990#16 → exec .slow s = .next { s with rf := false }) ∧
    (∀ s : State, s.rf = true → s.et ≠ 0x9990#16 →
      exec .slow s = .next { s with et := bcdInc 1 s.et, rf := bcdInc 1 s.et != 0x9990#16 })

/-- BCD_INC digit by digit, for every 16-bit value and every INC_NIBBLE (R70; decisions D1 and D6): a digit changes only
if every digit from INC_NIBBLE up to it passes the carry on. -/
def Obligations.BcdIncrementByDigits : Prop :=
  ∀ (k : Nat) (v : EtWord) (i : Nat), k ≤ 3 → i < 4 →
    nib (bcdInc k v) i =
      if k ≤ i ∧ ∀ j < i, k ≤ j → 9 ≤ (nib v j).toNat then
        if 9 ≤ (nib v i).toNat then 0#4 else nib v i + 1#4
      else nib v i

/-- On decimal digits BCD_INC is addition of one modulo a power of ten (R71, derived by the spec from R70). -/
def Obligations.BcdIncrementIsDecimalAddition : Prop :=
  (∀ (k : Nat) (v : EtWord), k ≤ 3 → (∀ i < 4, k ≤ i → (nib v i).toNat ≤ 9) →
    decimalFrom k (bcdInc k v) = (decimalFrom k v + 1) % 10 ^ (4 - k) ∧
      (∀ i < 4, k ≤ i → (nib (bcdInc k v) i).toNat ≤ 9) ∧
      (∀ i < k, nib (bcdInc k v) i = nib v i)) ∧
    bcdInc 1 0x9990#16 = 0x0000#16 ∧ bcdInc 1 0x9995#16 = 0x0005#16

/-- Start in overflow-stop (R75): START at the maximum runs, the next SLOW stops again, and a SLOW at the maximum leaves
ET there and RF clear, whatever RF was. -/
def Obligations.StartAtMaximumStopsAtNextSlow : Prop :=
  ∀ s : State, s.et = 0x9990#16 →
    (∃ t, exec .start s = .next t ∧ t.rf = true ∧ t.et = 0x9990#16 ∧
      ∃ u, exec .slow t = .next u ∧ u.rf = false ∧ u.et = 0x9990#16) ∧
    (∃ t, exec .slow s = .next t ∧ t.rf = false ∧ t.et = 0x9990#16)

/-- Skipped maximum (R76, R179, derived by the spec): with a digit 0 that is not 0, any number of slow ticks keeps
counting, keeps digit 0, and never stops. -/
def Obligations.SkippedMaximumNeverStops : Prop :=
  ∀ (n : Nat) (s : State), s.rf = true → nib s.et 0 ≠ 0#4 →
    runOps (List.replicate n .slow) s = .next { s with et := (bcdInc 1)^[n] s.et } ∧
      nib ((bcdInc 1)^[n] s.et) 0 = nib s.et 0

/-- Ten slow ticks (R77, derived by the spec): digit 1 runs through 1 to 9 with the other digits left alone and goes back
to 0, digit 2 advances by one, a 9 there becomes 0 and carries into digit 3, and counting goes on. -/
def Obligations.TenSlowTicksAdvanceTheSeconds : Prop :=
  ∀ s : State, s.rf = true → BcdDigits s.et → nib s.et 0 = 0#4 → nib s.et 1 = 0#4 → decimalFrom 2 s.et < 99 →
    (∀ k ≤ 9, ∃ t, runOps (List.replicate k .slow) s = .next t ∧ t.rf = true ∧ BcdDigits t.et ∧ nib t.et 0 = 0#4 ∧
      (nib t.et 1).toNat = k ∧ nib t.et 2 = nib s.et 2 ∧ nib t.et 3 = nib s.et 3) ∧
    (∃ t, runOps (List.replicate 10 .slow) s = .next t ∧ t.rf = true ∧ BcdDigits t.et ∧ nib t.et 0 = 0#4 ∧
      nib t.et 1 = 0#4 ∧
      nib t.et 2 = (if nib s.et 2 = 9#4 then 0#4 else nib s.et 2 + 1#4) ∧
      nib t.et 3 = (if nib s.et 2 = 9#4 then nib s.et 3 + 1#4 else nib s.et 3) ∧
      decimalFrom 2 t.et = decimalFrom 2 s.et + 1)

/-- Counting from zero (R185, derived by the spec; spec/95 section 2.2): after k slow ticks ET spells k, until the 999th
reaches the maximum and stops for good. -/
def Obligations.CountingFromZeroStopsAtMaximum : Prop :=
  ∀ (s : State) (k : Nat), s.rf = true → s.et = 0x0000#16 →
    ∃ t, runOps (List.replicate k .slow) s = .next t ∧ BcdDigits t.et ∧ nib t.et 0 = 0#4 ∧
      decimalFrom 1 t.et = min k 999 ∧ t.rf = decide (k < 999)

/-- SLOW is independent of POS, SEG_OUT and SEL_OUT and does not touch IFG, and a FAST after it shows the new ET at the
position it refreshes (R78). -/
def Obligations.SlowIgnoresTheDisplay : Prop :=
  ∀ (s : State) (p : Position) (sg : SegPattern) (sl : SelPattern) (f : Indicators),
    ∃ t, exec .slow s = .next t ∧
      exec .slow { s with pos := p, segOut := sg, selOut := sl, ifg := f } =
        .next { t with pos := p, segOut := sg, selOut := sl, ifg := f } ∧
      t.pos = s.pos ∧ t.segOut = s.segOut ∧ t.selOut = s.selOut ∧ t.ifg = s.ifg ∧
      (s.pos.toNat ≤ 3 → ∃ u, exec .fast t = .next u ∧ u.segOut = segCode params (nib t.et s.pos.toNat))

/-! ## The fast tick -/

/-- SEG_CODE (R90): the table on decimal digits, CODEC_INVALID above, whatever the table is. -/
def Obligations.SegmentCodecFollowsItsTable : Prop :=
  ∀ (c : Params) (d : Digit),
    (∀ h : d.toNat < 10, segCode c d = c.segTable[d.toNat]) ∧ (9 < d.toNat → segCode c d = c.codecInvalid)

/-- The reference glyphs and the select patterns (R91, R92, R94, R52; decisions D7, D8, D10; the glyphs are general
knowledge, as the spec marks them). -/
def Obligations.PatternsHaveTheirReferenceValues : Prop :=
  (List.range 16).map (fun d => segCode params (BitVec.ofNat 4 d)) =
      [0xC0, 0xF9, 0xA4, 0xB0, 0x99, 0x92, 0x82, 0xF8, 0x80, 0x90, 0xFF, 0xFF, 0xFF, 0xFF, 0xFF, 0xFF] ∧
    (List.range 5).map Sys2Proof.Machine.select = [0x1E, 0x1D, 0x1B, 0x17, 0x0F]

/-- FAST (R95): code, grant, service entry and effect at every position, the three writes in their order. -/
def Obligations.FastServiceRefreshesOnePosition : Prop :=
  decode 0b010#3 = .ok .fast ∧
    (∀ (rank : BtnRank) (s : State), arbitrate rank s = 0b010#3 → s.pendFast = true) ∧
    (∀ s : State, s.acknowledge 0b010#3 = { s with pendFast := false }) ∧
    (∀ s : State, s.pos.toNat ≤ 3 →
      exec .fast s = .next { s with
        pos := s.pos + 1#3
        segOut := segCode params (nib s.et s.pos.toNat)
        selOut := ~~~(1#5 <<< s.pos.toNat)
        trace := s.trace ++
          refreshEvents s.cycle (segCode params (nib s.et s.pos.toNat)) (~~~(1#5 <<< s.pos.toNat)) }) ∧
    (∀ s : State, s.pos.toNat = 4 →
      exec .fast s = .next { s with
        pos := 0#3
        segOut := Config.sepPattern
        selOut := 0x0F#5
        trace := s.trace ++ refreshEvents s.cycle Config.sepPattern 0x0F#5 }) ∧
    (∀ s : State, 5 ≤ s.pos.toNat → exec .fast s = .next { s with pos := 0#3 })

/-- Corrupted position (R97): the position is repaired, nothing is emitted, the outputs stay, and the next FAST
refreshes position 0. -/
def Obligations.FastRepairsACorruptedPosition : Prop :=
  ∀ s : State, 5 ≤ s.pos.toNat →
    ∃ t, exec .fast s = .next t ∧ t.pos = 0#3 ∧ t.trace = s.trace ∧ t.segOut = s.segOut ∧ t.selOut = s.selOut ∧
      ∃ u, exec .fast t = .next u ∧ u.segOut = segCode params (nib s.et 0) ∧ u.selOut = 0x1E#5 ∧ u.pos = 1#3

/-- FAST is independent of RF and writes neither ET nor RF; POS belongs to FAST alone (R98): no other operation writes it
or depends on it. -/
def Obligations.FastRunsWhateverTheRunFlag : Prop :=
  (∀ (s : State) (b : Bool), ∃ t, exec .fast s = .next t ∧ t.et = s.et ∧ t.rf = s.rf ∧
    exec .fast { s with rf := b } = .next { t with rf := b }) ∧
    (∀ (i : Instr) (s : State) (p : Position), i ≠ .fast →
      ∃ t, exec i s = .next t ∧ t.pos = s.pos ∧ exec i { s with pos := p } = .next { t with pos := p })

/-- One frame (R99, derived by the spec): from a valid position n fast ticks leave POS at (p + n) mod 5, and five of them
refresh each position once and return to p; from a corrupted position the first leaves 0. The services are applied
outside a cycle, so all their events carry the cycle number of the start: that an operation does not advance the number
is the model's own (log entry 10, DEDUCED). -/
def Obligations.FrameVisitsEachPositionOnce : Prop :=
  (∀ (n : Nat) (s : State), s.pos.toNat ≤ 4 →
    ∃ t, runOps (List.replicate n .fast) s = .next t ∧ t.pos.toNat = (s.pos.toNat + n) % 5 ∧
      t.trace = s.trace ++ (List.range n).flatMap fun k =>
        let p := (s.pos.toNat + k) % 5
        refreshEvents s.cycle (shownAt s.et p) (~~~(1#5 <<< p))) ∧
    (∀ s : State, 5 ≤ s.pos.toNat → ∃ t, exec .fast s = .next t ∧ t.pos = 0#3)

/-! ## The buttons -/

/-- START (R111): code and whole effect; it holds whatever RF, ET and the other indicators are. -/
def Obligations.StartSetsTheRunFlag : Prop :=
  decode 0b100#3 = .ok .start ∧
    ∀ s : State, exec .start s = .next { s with ifg := s.ifg &&& 0b1110#4, rf := true }

/-- PAUSE (R112): code and whole effect. -/
def Obligations.PauseClearsTheRunFlag : Prop :=
  decode 0b101#3 = .ok .pause ∧
    ∀ s : State, exec .pause s = .next { s with ifg := s.ifg &&& 0b1101#4, rf := false }

/-- RESET, the reset button's action (R113): code and whole effect, available in any state. -/
def Obligations.ResetActionClearsTheTime : Prop :=
  decode 0b110#3 = .ok .resetAction ∧
    ∀ s : State, exec .resetAction s = .next { s with ifg := s.ifg &&& 0b1011#4, et := 0x0000#16, rf := false }

/-- SPUR (R114): code, grant only when IFG[3] is set alone, and whole effect. -/
def Obligations.SpurClearsThePort : Prop :=
  decode 0b111#3 = .ok .spur ∧
    (∀ (rank : BtnRank) (s : State), arbitrate rank s = 0b111#3 → s.ifg = 0b1000#4) ∧
    ∀ s : State, exec .spur s = .next { s with ifg := 0b0000#4 }

/-- NONE (R115; decision D27): code, grant exactly when nothing is pending, and no effect. -/
def Obligations.NoneLeavesTheStateAlone : Prop :=
  decode 0b000#3 = .ok .none ∧
    (∀ (rank : BtnRank) (s : State),
      arbitrate rank s = 0b000#3 ↔ s.pendSlow = false ∧ s.pendFast = false ∧ s.ifg = 0b0000#4) ∧
    ∀ s : State, exec .none s = .next s

/-- A button service serves the lowest pending line and clears that indicator alone (R110, R117; decision D5). -/
def Obligations.ButtonServiceTakesTheLowestLine : Prop :=
  ∀ s : State, s.ifg ≠ 0b0000#4 →
    (∃ t, exec (btnSelect s.ifg) s = .next t ∧ t.ifg = s.ifg &&& (s.ifg - 1#4)) ∧
    (btnSelect s.ifg = .start ↔ s.ifg.getLsbD 0 = true) ∧
    (btnSelect s.ifg = .pause ↔ s.ifg.getLsbD 0 = false ∧ s.ifg.getLsbD 1 = true) ∧
    (btnSelect s.ifg = .resetAction ↔ s.ifg.getLsbD 0 = false ∧ s.ifg.getLsbD 1 = false ∧ s.ifg.getLsbD 2 = true) ∧
    (btnSelect s.ifg = .spur ↔ s.ifg = 0b1000#4)

/-- START, PAUSE and RESET are idempotent (R116, derived by the spec): applied twice they leave the state they leave
applied once. -/
def Obligations.ButtonActionsAreIdempotent : Prop :=
  ∀ (i : Instr) (s : State), i = .start ∨ i = .pause ∨ i = .resetAction →
    ∃ t, exec i s = .next t ∧ exec i t = .next t

/-- Button actions never read RF or ET (R118), and SLOW and PAUSE do not commute: from a running state below the maximum
the order decides whether the tick counts (90_conflicts.md C7). -/
def Obligations.SlowAndPauseDoNotCommute : Prop :=
  (∀ (i : Instr) (s : State) (e : EtWord) (b : Bool), i = .start ∨ i = .pause ∨ i = .resetAction →
    ∃ t, exec i s = .next t ∧
      exec i { s with et := e, rf := b } = .next { t with et := if i = .resetAction then 0x0000#16 else e }) ∧
    ∀ s : State, s.rf = true → s.et ≠ 0x9990#16 →
      ∃ t u, runOps [.slow, .pause] s = .next t ∧ runOps [.pause, .slow] s = .next u ∧
        t.et = bcdInc 1 s.et ∧ u.et = s.et ∧ t.et ≠ u.et ∧ t.rf = false ∧ u.rf = false

/-- The effective states (R120): each is what the spec says, and every state is in exactly one. -/
def Obligations.EffectiveStatesClassify : Prop :=
  ∀ s : State,
    (s.effective params = .idle ↔ s.rf = false ∧ s.et = 0x0000#16) ∧
    (s.effective params = .running ↔ s.rf = true) ∧
    (s.effective params = .paused ↔ s.rf = false ∧ s.et ≠ 0x0000#16 ∧ s.et ≠ 0x9990#16) ∧
    (s.effective params = .stoppedOverflow ↔ s.rf = false ∧ s.et = 0x9990#16)

/-- The transitions of the effective state (R121, R122, derived by the spec). -/
def Obligations.EffectiveStateTransitions : Prop :=
  ∀ (i : Instr) (s : State), ∃ t, exec i s = .next t ∧
    match i with
    | .start => t.effective params = .running ∧ t.et = s.et
    | .pause =>
      t.rf = false ∧ t.et = s.et ∧ (s.rf = false → t.effective params = s.effective params) ∧
        (s.rf = true → t.effective params =
          if s.et = 0x0000#16 then .idle else if s.et = 0x9990#16 then .stoppedOverflow else .paused)
    | .resetAction => t.effective params = .idle
    | .slow =>
      (s.effective params ≠ .running → t = s) ∧
        (s.effective params = .running → t.effective params =
          if t.et = 0x9990#16 then .stoppedOverflow else .running)
    | .fast => t.effective params = s.effective params
    | .spur => t.effective params = s.effective params
    | .none => t.effective params = s.effective params

/-- Only RESET and system reset move ET away from the maximum (R123, derived by the spec), for every operation and for
every step. -/
def Obligations.MaximumIsLeftOnlyByReset : Prop :=
  (∀ (i : Instr) (s : State), i ≠ .resetAction → s.et = 0x9990#16 →
    ∃ t, exec i s = .next t ∧ t.et = 0x9990#16) ∧
    (∀ s : State, s.et = 0x9990#16 → s.pins.rst = false → arbitrate params.btnRank s ≠ 0b110#3 →
      ∃ t, step s = .next t ∧ t.et = 0x9990#16)

/-! ## Arbiter and cycle -/

/-- The arbiter asks the sources in the order BTN_RANK gives and grants the first that is pending, for every BTN_RANK
(R147; decision D4). -/
def Obligations.ArbiterAsksTheSourcesInOrder : Prop :=
  ∀ (rank : BtnRank) (s : State),
    arbitrate rank s = encode (((sourceOrder rank).findSome? fun src => src.request s).getD .none)

/-- Simultaneous ticks (R148): FAST is not granted while SLOW is pending; both wait until SLOW is granted, and the FAST
that follows the SLOW grant shows the incremented ET. For every BTN_RANK. -/
def Obligations.SlowIsServedBeforeFast : Prop :=
  ∀ (rank : BtnRank) (s : State), s.pendSlow = true → s.pendFast = true → s.pins.rst = false →
    arbitrate rank s ≠ 0b010#3 ∧
      ∃ t, cycle rank s = .next t ∧ t.pendFast = true ∧ (arbitrate rank s ≠ 0b001#3 → t.pendSlow = true) ∧
        (arbitrate rank s = 0b001#3 →
          t.et = (if s.rf = true ∧ s.et ≠ 0x9990#16 then bcdInc 1 s.et else s.et) ∧
            (t.pos.toNat ≤ 3 → ∃ u, execute 0b010#3 (t.acknowledge 0b010#3) = .next u ∧
              u.segOut = segCode params (nib t.et t.pos.toNat)))

/-- A pending slow tick is granted at once unless the button source outranks it, and a lone fast tick is granted whatever
the rank (R149, R153, derived by the spec). -/
def Obligations.PendingSlowTickIsGrantedNext : Prop :=
  (∀ (rank : BtnRank) (s : State), s.pendSlow = true → rank ≠ .high ∨ s.ifg = 0b0000#4 →
    arbitrate rank s = 0b001#3) ∧
    (∀ (rank : BtnRank) (s : State), s.pendSlow = false → s.pendFast = true → rank = .low ∨ s.ifg = 0b0000#4 →
      arbitrate rank s = 0b010#3) ∧
    (∀ (rank : BtnRank) (s : State), s.ifg ≠ 0b0000#4 →
      rank = .high ∨ (s.pendSlow = false ∧ (rank = .mid ∨ s.pendFast = false)) →
      arbitrate rank s = encode (btnSelect s.ifg))

/-- The reserved code is refused when applied directly and never granted; every other code completes (R58, R63, R165;
decision D23). -/
def Obligations.ReservedCodeIsRefusedAndNeverGranted : Prop :=
  (∀ s : State, execute 0b011#3 s = .refused .reservedGrant) ∧
    (∀ (rank : BtnRank) (s : State), arbitrate rank s ≠ 0b011#3) ∧
    (∀ (g : Grant) (s : State), g ≠ 0b011#3 → ∃ t, execute g s = .next t)

/-- A step outside system reset: service entry, the decoded operation by `exec`, then capture (R150, R152; decisions D3
and D16). That the input sample is then used up (`dropInput`) is the model's own (log entry 1, DESIGN CHOICE), and so is
the cycle number in the state, which `nextCycle` advances (log entry 10, DEDUCED). -/
def Obligations.StepRunsTheGrantedOperation : Prop :=
  ∀ (s : State) (i : Instr), s.pins.rst = false → decode (arbitrate params.btnRank s) = .ok i →
    ∃ t, exec i (s.acknowledge (arbitrate params.btnRank s)) = .next t ∧
      step s = .next ((capture params s.pins t).dropInput.nextCycle)

/-- Cycle is total (R154): every state and every input has exactly one successor, for the step and for every BTN_RANK. -/
def Obligations.EveryCycleHasOneSuccessor : Prop :=
  (∀ (s : State) (p : Pins), ∃ t, step (s.withPins p) = .next t ∧ ∀ u, step (s.withPins p) = .next u → u = t) ∧
    (∀ s : State, ∃ t, step s = .next t) ∧
    (∀ (rank : BtnRank) (s : State), ∃ t, cycle rank s = .next t)

/-- A state made ready for an opcode-table word grants exactly that word's operation, whatever BTN_RANK is, in a cycle
without system reset (R147; the making ready is the model's own, log entry 8). -/
def Obligations.FetchWordIsGranted : Prop :=
  ∀ (rank : BtnRank) (s : State) (i : Instr),
    arbitrate rank (s.withFetchWord 8 (encode i).toNat) = encode i ∧
      (s.withFetchWord 8 (encode i).toNat).pins.rst = false

/-- A cycle in which nothing is pending keeps every register but the counters, the edge detector's and what it captures,
and emits nothing (R160; decision D27). The cycle number in the state is the model's own (log entry 10, DEDUCED). -/
def Obligations.IdleCycleKeepsTheRegisters : Prop :=
  ∀ s : State, s.pendSlow = false → s.pendFast = false → s.ifg = 0b0000#4 → s.pins.rst = false →
    ∃ t, step s = .next t ∧ t.et = s.et ∧ t.rf = s.rf ∧ t.pos = s.pos ∧ t.segOut = s.segOut ∧
      t.selOut = s.selOut ∧ t.trace = s.trace ∧ t.cycle = s.cycle + 1

/-- The display does not reach the timekeeping: two states that differ in POS, SEG_OUT, SEL_OUT and the trace alone make
steps that do so again (spec/10 R38, spec/42 R98, spec/41 R78). -/
def Obligations.TimekeepingIgnoresTheDisplay : Prop :=
  ∀ s s' : State, SameButDisplay s s' →
    ∃ t t', step s = .next t ∧ step s' = .next t' ∧ SameButDisplay t t'

/-! ## Capture -/

/-- The tick generator in a step, the service before it (R137, R138, R141, R152; decisions D14 to D16): a tick sets its
pending bit even if the service cleared it, a tick that finds its bit set changes nothing more, and no operation writes
a counter. The free value of a counter at 0xFFFF is the model's own (log entry 15, DESIGN CHOICE). -/
def Obligations.TickGeneratorCountsAndPends : Prop :=
  ∀ s : State, s.pins.rst = false →
    let g := arbitrate params.btnRank s
    ∃ t, step s = .next t ∧
      t.fastCnt = (if s.fastCnt = 1999#16 then 0#16 else
        if s.fastCnt = 0xFFFF#16 then Config.countPastWidth .fastCnt else s.fastCnt + 1#16) ∧
      t.slowPre = (if s.slowPre = 1#16 then 0#16 else
        if s.slowPre = 0xFFFF#16 then Config.countPastWidth .slowPre else s.slowPre + 1#16) ∧
      t.slowCnt = (if s.slowPre = 1#16 then if s.slowCnt = 49999#16 then 0#16 else
        if s.slowCnt = 0xFFFF#16 then Config.countPastWidth .slowCnt else s.slowCnt + 1#16 else s.slowCnt) ∧
      (t.pendFast = true ↔ s.fastCnt = 1999#16 ∨ (s.pendFast = true ∧ g ≠ 0b010#3)) ∧
      (t.pendSlow = true ↔ (s.slowPre = 1#16 ∧ s.slowCnt = 49999#16) ∨ (s.pendSlow = true ∧ g ≠ 0b001#3))

/-- The edge detector of the block, whose DEBOUNCE_CYCLES is 0, and OTHER_EDGE (R142, R144; decisions D17 to D19): a press
edge on a line sets its indicator, a set indicator stays, the sampled levels are kept, and no line is ever locked out. -/
def Obligations.PressEdgesSetTheirIndicators : Prop :=
  ∀ (p : Pins) (s : State),
    (capture params p s).ifg =
        s.ifg ||| (s.btnPrev &&& ~~~p.btnIn).setWidth 4 ||| (if p.otherEdge then 0b1000#4 else 0b0000#4) ∧
      (capture params p s).btnPrev = p.btnIn ∧ (∀ i : Fin 3, (capture params p s).dbCnt[i] = 0)

/-- DB_W (R31; decision D18) is the smallest width that holds DEBOUNCE_CYCLES, and the block's counters, which it gives no
bit, are 0 in every state. -/
def Obligations.DebounceCounterHasTheSmallestWidth : Prop :=
  (∀ d : Nat, d < 2 ^ dbWidth d ∧ ∀ w : Nat, d < 2 ^ w → dbWidth d ≤ w) ∧
    (∀ (s : State) (i : Fin 3), s.dbCnt[i] = 0)

/-- The debounce lockout for every DEBOUNCE_CYCLES, at the width R31 gives its counters (R143; decision D18): an accepted
edge loads the counter, and while it counts down, whatever the levels do, the line's indicator does not change. -/
def Obligations.DebounceLocksALineOut : Prop :=
  (∀ (d : Nat) (levels : ButtonLevels) (f : EdgeFront (dbWidth d)) (i : Fin 3), f.dbCnt[i] = 0 →
    f.btnPrev.getLsbD i = true → levels.getLsbD i = false →
    (edgeDetect d levels f).ifg.getLsbD i = true ∧ (edgeDetect d levels f).dbCnt[i].toNat = d) ∧
    (∀ (d : Nat) (samples : List ButtonLevels) (f : EdgeFront (dbWidth d)) (i : Fin 3),
      samples.length ≤ f.dbCnt[i].toNat →
      (samples.foldl (fun t l => edgeDetect d l t) f).ifg.getLsbD i = f.ifg.getLsbD i ∧
        (samples.foldl (fun t l => edgeDetect d l t) f).dbCnt[i].toNat = f.dbCnt[i].toNat - samples.length)

/-- Phase 2 sets pending bits and clears none, and beside them it writes BTN_PREV, DB_CNT and the three counters and
nothing else (R152; decision D16), for every parameter choice. -/
def Obligations.CaptureOnlySetsPendingBits : Prop :=
  ∀ (c : Params) (p : Pins) (s : State),
    let t := capture c p s
    (s.pendSlow = true → t.pendSlow = true) ∧ (s.pendFast = true → t.pendFast = true) ∧
      s.ifg &&& t.ifg = s.ifg ∧
      t = { s with
        pendSlow := t.pendSlow, pendFast := t.pendFast, ifg := t.ifg, btnPrev := t.btnPrev, dbCnt := t.dbCnt,
        fastCnt := t.fastCnt, slowPre := t.slowPre, slowCnt := t.slowCnt }

/-- Tick times (R139, derived by the spec): with the counters in phase, the cycle that ends a fast period leaves a fast
tick pending, the one that ends a slow period leaves both pending, and no other cycle makes a tick. The
cycle number in the state is the model's own (log entry 10, DEDUCED). -/
def Obligations.TicksFallOnTheirPeriods : Prop :=
  ∀ s : State, s.InPhase → s.pins.rst = false →
    ∃ t, step s = .next t ∧
      ((s.cycle + 1) % 2000 = 0 → t.pendFast = true) ∧
      ((s.cycle + 1) % 100000 = 0 → t.pendSlow = true ∧ t.pendFast = true) ∧
      ((s.cycle + 1) % 2000 ≠ 0 → s.pendFast = false → t.pendFast = false) ∧
      ((s.cycle + 1) % 100000 ≠ 0 → s.pendSlow = false → t.pendSlow = false)

/-- A button held through reset counts as one press (R175, derived by the spec): the first cycle captures it, the second
grants its action whatever BTN_RANK is, and held further it makes no second edge. Where several lines are held the lowest
is served first (R110; decision D5), and an edge on another line of the port sets IFG[3] in either cycle (R144;
decision D19). -/
def Obligations.HeldButtonIsOnePressAfterReset : Prop :=
  ∀ p : Pins, p.rst = false → p.btnIn ≠ 0b111#3 →
    let other := if p.otherEdge then 0b1000#4 else 0b0000#4
    ∃ t, step (State.reset.withPins p) = .next t ∧ t.ifg = (~~~p.btnIn).setWidth 4 ||| other ∧
      ∀ rank : BtnRank, arbitrate rank t = encode (btnSelect t.ifg) ∧
        ∃ u, cycle rank (t.withPins p) = .next u ∧ u.ifg = (t.ifg &&& (t.ifg - 1#4)) ||| other

/-! ## Invariants -/

/-- Every step keeps the reachable-state invariants of R37 (a), (b), (c), (d) and (f) and the bound of R31. -/
def Obligations.StepKeepsReachableInvariants : Prop :=
  ∀ s t : State, s.Reachable → step s = .next t → t.Reachable

/-- The reachable-state invariants hold after system reset (R37). -/
def Obligations.ResetMeetsReachableInvariants : Prop := State.reset.Reachable

/-- RF = 1 at the maximum (R37 (e), derived by the spec): a step gets there only by a START at the maximum, or from such a
state itself, in a cycle that grants no SLOW. -/
def Obligations.RunningAtMaximumComesFromStart : Prop :=
  ∀ s t : State, step s = .next t → t.rf = true → t.et = 0x9990#16 →
    s.pins.rst = false ∧ s.et = 0x9990#16 ∧ arbitrate params.btnRank s ≠ 0b001#3 ∧
      (s.rf = true ∨ arbitrate params.btnRank s = 0b100#3)

/-- Every step keeps the counters in phase with the cycle number (R139, derived by the spec; the table of spec/95
section 2.6). The cycle number in the state is the model's own (log entry 10, DEDUCED). -/
def Obligations.StepKeepsCountersInPhase : Prop :=
  ∀ s t : State, s.InPhase → step s = .next t → t.InPhase

/-- The counters are in phase after system reset (R139, R171). -/
def Obligations.ResetCountersAreInPhase : Prop := State.reset.InPhase

/-- Every step keeps the trace's discipline: replayed from reset it gives the output registers, its events stand in the
order of their cycles, and SEG_OUT never changes under an asserted select line (R36, R46, R96, R176; decision D11). -/
def Obligations.StepKeepsTraceDiscipline : Prop :=
  ∀ s t : State, s.TraceTells → step s = .next t → t.TraceTells

/-- The trace's discipline holds after system reset, where the trace is empty (R171). -/
def Obligations.ResetTraceIsDisciplined : Prop := State.reset.TraceTells
end

