-- ==== Sys2Proof/Laws/Operands.lean ====
section
/-!
SUPPORT. Digits, numbered bits and parameters: what the helpers of Machine/Operands.lean and Machine/Params.lean give.
-/
namespace Sys2Proof.Machine

/-! The parameters' values (R7). -/

@[simp] theorem params_fastDiv : params.fastDiv = 2000 := rfl
@[simp] theorem params_slowPrescale : params.slowPrescale = 2 := rfl
@[simp] theorem params_slowDiv : params.slowDiv = 50000 := rfl
@[simp] theorem params_incNibble : params.incNibble = 1 := rfl
@[simp] theorem params_etMax : params.etMax = 0x9990#16 := rfl
@[simp] theorem params_codecInvalid : params.codecInvalid = 0xFF#8 := rfl
@[simp] theorem params_sepPattern : params.sepPattern = Config.sepPattern := rfl
@[simp] theorem params_btnRank : params.btnRank = Config.btnRank := rfl
@[simp] theorem params_debounceCycles : params.debounceCycles = 0 := rfl

/-- The block's lockout counters have no bit (R31). -/
theorem dbW_eq_zero : dbW = 0 := rfl

/-- So a counter of that width has one value. -/
theorem eq_zero_of_dbW (v : BitVec dbW) : v = 0 :=
  BitVec.eq_of_toNat_eq (Nat.lt_one_iff.mp v.isLt)

/-! Digits (R11). -/

theorem nib_setNib_same (v : EtWord) {i : Nat} (hi : i < 4) (d : Digit) : nib (setNib v i d) i = d := by
  interval_cases i <;> (unfold nib setNib; ext k hk; interval_cases k <;> simp)

theorem nib_setNib_other (v : EtWord) {i j : Nat} (hi : i < 4) (hj : j < 4) (h : i ≠ j) (d : Digit) :
    nib (setNib v i d) j = nib v j := by
  interval_cases i <;> interval_cases j <;>
    first | exact absurd rfl h | (unfold nib setNib; ext k hk; interval_cases k <;> simp)

/-- A value is its four digits. -/
theorem et_eq_of_nib_eq {v w : EtWord} (h : ∀ i < 4, nib v i = nib w i) : v = w := by
  have bit (i : Nat) (hi : i < 4) (k : Nat) (hk : k < 4) : v.getLsbD (4 * i + k) = w.getLsbD (4 * i + k) := by
    have := congrArg (fun d : BitVec 4 => d.getLsbD k) (h i hi)
    simpa [nib, hk] using this
  ext n hn
  have := bit (n / 4) (by omega) (n % 4) (Nat.mod_lt _ (by decide))
  simpa [Nat.div_add_mod, BitVec.getLsbD_eq_getElem hn] using this

/-- A value as the number its digits make. -/
theorem et_eq_nib_sum (v : EtWord) :
    v.toNat = (nib v 0).toNat + 16 * (nib v 1).toNat + 256 * (nib v 2).toNat + 4096 * (nib v 3).toNat := by
  simp only [nib, BitVec.extractLsb'_toNat, Nat.shiftRight_eq_div_pow]
  have := v.isLt
  omega

/-! The carry loop one digit at a time (R70). -/

theorem bcdCarry_roll {n i : Nat} {r : EtWord} (h : 9#4 ≤ nib r i) :
    bcdCarry (n + 1) i r = bcdCarry n (i + 1) (setNib r i 0#4) := if_pos h

theorem bcdCarry_stop {n i : Nat} {r : EtWord} (h : ¬ 9#4 ≤ nib r i) :
    bcdCarry (n + 1) i r = setNib r i (nib r i + 1#4) := if_neg h

/-- The carry loop leaves every digit below the one that receives the carry. -/
theorem nib_bcdCarry_below (n : Nat) {i j : Nat} (hn : n + i ≤ 4) (hj : j < i) (r : EtWord) :
    nib (bcdCarry n i r) j = nib r j := by
  induction n generalizing i r with
  | zero => rfl
  | succ n ih =>
    by_cases h : 9#4 ≤ nib r i
    · rw [bcdCarry_roll h, ih (by omega) (by omega)]
      exact nib_setNib_other r (by omega) (by omega) (by omega) 0#4
    · rw [bcdCarry_stop h]
      exact nib_setNib_other r (by omega) (by omega) (by omega) _

/-! The select encoder (R94). -/

theorem onehotLow5_values :
    [onehotLow5 0, onehotLow5 1, onehotLow5 2, onehotLow5 3, onehotLow5 4] = [0x1E, 0x1D, 0x1B, 0x17, 0x0F] := by
  decide

end Sys2Proof.Machine
end

