-- ==== Sys2Proof/Laws/State.lean ====
section
/-!
SUPPORT. Each update of the state, field by field: what it writes and what it leaves. True by definition, so that no
later proof unfolds an update.
-/
namespace Sys2Proof.Machine

variable (s : State)

/-! `State.setEt` -/

@[simp] theorem State.setEt_et (v : EtWord) : (s.setEt v).et = v := rfl
@[simp] theorem State.setEt_rf (v : EtWord) : (s.setEt v).rf = s.rf := rfl
@[simp] theorem State.setEt_pos (v : EtWord) : (s.setEt v).pos = s.pos := rfl
@[simp] theorem State.setEt_segOut (v : EtWord) : (s.setEt v).segOut = s.segOut := rfl
@[simp] theorem State.setEt_selOut (v : EtWord) : (s.setEt v).selOut = s.selOut := rfl
@[simp] theorem State.setEt_pendSlow (v : EtWord) : (s.setEt v).pendSlow = s.pendSlow := rfl
@[simp] theorem State.setEt_pendFast (v : EtWord) : (s.setEt v).pendFast = s.pendFast := rfl
@[simp] theorem State.setEt_ifg (v : EtWord) : (s.setEt v).ifg = s.ifg := rfl
@[simp] theorem State.setEt_btnPrev (v : EtWord) : (s.setEt v).btnPrev = s.btnPrev := rfl
@[simp] theorem State.setEt_dbCnt (v : EtWord) : (s.setEt v).dbCnt = s.dbCnt := rfl
@[simp] theorem State.setEt_fastCnt (v : EtWord) : (s.setEt v).fastCnt = s.fastCnt := rfl
@[simp] theorem State.setEt_slowPre (v : EtWord) : (s.setEt v).slowPre = s.slowPre := rfl
@[simp] theorem State.setEt_slowCnt (v : EtWord) : (s.setEt v).slowCnt = s.slowCnt := rfl
@[simp] theorem State.setEt_cycle (v : EtWord) : (s.setEt v).cycle = s.cycle := rfl
@[simp] theorem State.setEt_trace (v : EtWord) : (s.setEt v).trace = s.trace := rfl
@[simp] theorem State.setEt_inputs (v : EtWord) : (s.setEt v).inputs = s.inputs := rfl
@[simp] theorem State.setEt_draws (v : EtWord) : (s.setEt v).draws = s.draws := rfl

/-! `State.setRf` -/

@[simp] theorem State.setRf_et (v : Bool) : (s.setRf v).et = s.et := rfl
@[simp] theorem State.setRf_rf (v : Bool) : (s.setRf v).rf = v := rfl
@[simp] theorem State.setRf_pos (v : Bool) : (s.setRf v).pos = s.pos := rfl
@[simp] theorem State.setRf_segOut (v : Bool) : (s.setRf v).segOut = s.segOut := rfl
@[simp] theorem State.setRf_selOut (v : Bool) : (s.setRf v).selOut = s.selOut := rfl
@[simp] theorem State.setRf_pendSlow (v : Bool) : (s.setRf v).pendSlow = s.pendSlow := rfl
@[simp] theorem State.setRf_pendFast (v : Bool) : (s.setRf v).pendFast = s.pendFast := rfl
@[simp] theorem State.setRf_ifg (v : Bool) : (s.setRf v).ifg = s.ifg := rfl
@[simp] theorem State.setRf_btnPrev (v : Bool) : (s.setRf v).btnPrev = s.btnPrev := rfl
@[simp] theorem State.setRf_dbCnt (v : Bool) : (s.setRf v).dbCnt = s.dbCnt := rfl
@[simp] theorem State.setRf_fastCnt (v : Bool) : (s.setRf v).fastCnt = s.fastCnt := rfl
@[simp] theorem State.setRf_slowPre (v : Bool) : (s.setRf v).slowPre = s.slowPre := rfl
@[simp] theorem State.setRf_slowCnt (v : Bool) : (s.setRf v).slowCnt = s.slowCnt := rfl
@[simp] theorem State.setRf_cycle (v : Bool) : (s.setRf v).cycle = s.cycle := rfl
@[simp] theorem State.setRf_trace (v : Bool) : (s.setRf v).trace = s.trace := rfl
@[simp] theorem State.setRf_inputs (v : Bool) : (s.setRf v).inputs = s.inputs := rfl
@[simp] theorem State.setRf_draws (v : Bool) : (s.setRf v).draws = s.draws := rfl

/-! `State.setPos` -/

@[simp] theorem State.setPos_et (v : Position) : (s.setPos v).et = s.et := rfl
@[simp] theorem State.setPos_rf (v : Position) : (s.setPos v).rf = s.rf := rfl
@[simp] theorem State.setPos_pos (v : Position) : (s.setPos v).pos = v := rfl
@[simp] theorem State.setPos_segOut (v : Position) : (s.setPos v).segOut = s.segOut := rfl
@[simp] theorem State.setPos_selOut (v : Position) : (s.setPos v).selOut = s.selOut := rfl
@[simp] theorem State.setPos_pendSlow (v : Position) : (s.setPos v).pendSlow = s.pendSlow := rfl
@[simp] theorem State.setPos_pendFast (v : Position) : (s.setPos v).pendFast = s.pendFast := rfl
@[simp] theorem State.setPos_ifg (v : Position) : (s.setPos v).ifg = s.ifg := rfl
@[simp] theorem State.setPos_btnPrev (v : Position) : (s.setPos v).btnPrev = s.btnPrev := rfl
@[simp] theorem State.setPos_dbCnt (v : Position) : (s.setPos v).dbCnt = s.dbCnt := rfl
@[simp] theorem State.setPos_fastCnt (v : Position) : (s.setPos v).fastCnt = s.fastCnt := rfl
@[simp] theorem State.setPos_slowPre (v : Position) : (s.setPos v).slowPre = s.slowPre := rfl
@[simp] theorem State.setPos_slowCnt (v : Position) : (s.setPos v).slowCnt = s.slowCnt := rfl
@[simp] theorem State.setPos_cycle (v : Position) : (s.setPos v).cycle = s.cycle := rfl
@[simp] theorem State.setPos_trace (v : Position) : (s.setPos v).trace = s.trace := rfl
@[simp] theorem State.setPos_inputs (v : Position) : (s.setPos v).inputs = s.inputs := rfl
@[simp] theorem State.setPos_draws (v : Position) : (s.setPos v).draws = s.draws := rfl

/-! `State.setPendSlow` -/

@[simp] theorem State.setPendSlow_et (v : Bool) : (s.setPendSlow v).et = s.et := rfl
@[simp] theorem State.setPendSlow_rf (v : Bool) : (s.setPendSlow v).rf = s.rf := rfl
@[simp] theorem State.setPendSlow_pos (v : Bool) : (s.setPendSlow v).pos = s.pos := rfl
@[simp] theorem State.setPendSlow_segOut (v : Bool) : (s.setPendSlow v).segOut = s.segOut := rfl
@[simp] theorem State.setPendSlow_selOut (v : Bool) : (s.setPendSlow v).selOut = s.selOut := rfl
@[simp] theorem State.setPendSlow_pendSlow (v : Bool) : (s.setPendSlow v).pendSlow = v := rfl
@[simp] theorem State.setPendSlow_pendFast (v : Bool) : (s.setPendSlow v).pendFast = s.pendFast := rfl
@[simp] theorem State.setPendSlow_ifg (v : Bool) : (s.setPendSlow v).ifg = s.ifg := rfl
@[simp] theorem State.setPendSlow_btnPrev (v : Bool) : (s.setPendSlow v).btnPrev = s.btnPrev := rfl
@[simp] theorem State.setPendSlow_dbCnt (v : Bool) : (s.setPendSlow v).dbCnt = s.dbCnt := rfl
@[simp] theorem State.setPendSlow_fastCnt (v : Bool) : (s.setPendSlow v).fastCnt = s.fastCnt := rfl
@[simp] theorem State.setPendSlow_slowPre (v : Bool) : (s.setPendSlow v).slowPre = s.slowPre := rfl
@[simp] theorem State.setPendSlow_slowCnt (v : Bool) : (s.setPendSlow v).slowCnt = s.slowCnt := rfl
@[simp] theorem State.setPendSlow_cycle (v : Bool) : (s.setPendSlow v).cycle = s.cycle := rfl
@[simp] theorem State.setPendSlow_trace (v : Bool) : (s.setPendSlow v).trace = s.trace := rfl
@[simp] theorem State.setPendSlow_inputs (v : Bool) : (s.setPendSlow v).inputs = s.inputs := rfl
@[simp] theorem State.setPendSlow_draws (v : Bool) : (s.setPendSlow v).draws = s.draws := rfl

/-! `State.setPendFast` -/

@[simp] theorem State.setPendFast_et (v : Bool) : (s.setPendFast v).et = s.et := rfl
@[simp] theorem State.setPendFast_rf (v : Bool) : (s.setPendFast v).rf = s.rf := rfl
@[simp] theorem State.setPendFast_pos (v : Bool) : (s.setPendFast v).pos = s.pos := rfl
@[simp] theorem State.setPendFast_segOut (v : Bool) : (s.setPendFast v).segOut = s.segOut := rfl
@[simp] theorem State.setPendFast_selOut (v : Bool) : (s.setPendFast v).selOut = s.selOut := rfl
@[simp] theorem State.setPendFast_pendSlow (v : Bool) : (s.setPendFast v).pendSlow = s.pendSlow := rfl
@[simp] theorem State.setPendFast_pendFast (v : Bool) : (s.setPendFast v).pendFast = v := rfl
@[simp] theorem State.setPendFast_ifg (v : Bool) : (s.setPendFast v).ifg = s.ifg := rfl
@[simp] theorem State.setPendFast_btnPrev (v : Bool) : (s.setPendFast v).btnPrev = s.btnPrev := rfl
@[simp] theorem State.setPendFast_dbCnt (v : Bool) : (s.setPendFast v).dbCnt = s.dbCnt := rfl
@[simp] theorem State.setPendFast_fastCnt (v : Bool) : (s.setPendFast v).fastCnt = s.fastCnt := rfl
@[simp] theorem State.setPendFast_slowPre (v : Bool) : (s.setPendFast v).slowPre = s.slowPre := rfl
@[simp] theorem State.setPendFast_slowCnt (v : Bool) : (s.setPendFast v).slowCnt = s.slowCnt := rfl
@[simp] theorem State.setPendFast_cycle (v : Bool) : (s.setPendFast v).cycle = s.cycle := rfl
@[simp] theorem State.setPendFast_trace (v : Bool) : (s.setPendFast v).trace = s.trace := rfl
@[simp] theorem State.setPendFast_inputs (v : Bool) : (s.setPendFast v).inputs = s.inputs := rfl
@[simp] theorem State.setPendFast_draws (v : Bool) : (s.setPendFast v).draws = s.draws := rfl

/-! `State.setIfg` -/

@[simp] theorem State.setIfg_et (v : Indicators) : (s.setIfg v).et = s.et := rfl
@[simp] theorem State.setIfg_rf (v : Indicators) : (s.setIfg v).rf = s.rf := rfl
@[simp] theorem State.setIfg_pos (v : Indicators) : (s.setIfg v).pos = s.pos := rfl
@[simp] theorem State.setIfg_segOut (v : Indicators) : (s.setIfg v).segOut = s.segOut := rfl
@[simp] theorem State.setIfg_selOut (v : Indicators) : (s.setIfg v).selOut = s.selOut := rfl
@[simp] theorem State.setIfg_pendSlow (v : Indicators) : (s.setIfg v).pendSlow = s.pendSlow := rfl
@[simp] theorem State.setIfg_pendFast (v : Indicators) : (s.setIfg v).pendFast = s.pendFast := rfl
@[simp] theorem State.setIfg_ifg (v : Indicators) : (s.setIfg v).ifg = v := rfl
@[simp] theorem State.setIfg_btnPrev (v : Indicators) : (s.setIfg v).btnPrev = s.btnPrev := rfl
@[simp] theorem State.setIfg_dbCnt (v : Indicators) : (s.setIfg v).dbCnt = s.dbCnt := rfl
@[simp] theorem State.setIfg_fastCnt (v : Indicators) : (s.setIfg v).fastCnt = s.fastCnt := rfl
@[simp] theorem State.setIfg_slowPre (v : Indicators) : (s.setIfg v).slowPre = s.slowPre := rfl
@[simp] theorem State.setIfg_slowCnt (v : Indicators) : (s.setIfg v).slowCnt = s.slowCnt := rfl
@[simp] theorem State.setIfg_cycle (v : Indicators) : (s.setIfg v).cycle = s.cycle := rfl
@[simp] theorem State.setIfg_trace (v : Indicators) : (s.setIfg v).trace = s.trace := rfl
@[simp] theorem State.setIfg_inputs (v : Indicators) : (s.setIfg v).inputs = s.inputs := rfl
@[simp] theorem State.setIfg_draws (v : Indicators) : (s.setIfg v).draws = s.draws := rfl

/-! `State.setBtnPrev` -/

@[simp] theorem State.setBtnPrev_et (v : ButtonLevels) : (s.setBtnPrev v).et = s.et := rfl
@[simp] theorem State.setBtnPrev_rf (v : ButtonLevels) : (s.setBtnPrev v).rf = s.rf := rfl
@[simp] theorem State.setBtnPrev_pos (v : ButtonLevels) : (s.setBtnPrev v).pos = s.pos := rfl
@[simp] theorem State.setBtnPrev_segOut (v : ButtonLevels) : (s.setBtnPrev v).segOut = s.segOut := rfl
@[simp] theorem State.setBtnPrev_selOut (v : ButtonLevels) : (s.setBtnPrev v).selOut = s.selOut := rfl
@[simp] theorem State.setBtnPrev_pendSlow (v : ButtonLevels) : (s.setBtnPrev v).pendSlow = s.pendSlow := rfl
@[simp] theorem State.setBtnPrev_pendFast (v : ButtonLevels) : (s.setBtnPrev v).pendFast = s.pendFast := rfl
@[simp] theorem State.setBtnPrev_ifg (v : ButtonLevels) : (s.setBtnPrev v).ifg = s.ifg := rfl
@[simp] theorem State.setBtnPrev_btnPrev (v : ButtonLevels) : (s.setBtnPrev v).btnPrev = v := rfl
@[simp] theorem State.setBtnPrev_dbCnt (v : ButtonLevels) : (s.setBtnPrev v).dbCnt = s.dbCnt := rfl
@[simp] theorem State.setBtnPrev_fastCnt (v : ButtonLevels) : (s.setBtnPrev v).fastCnt = s.fastCnt := rfl
@[simp] theorem State.setBtnPrev_slowPre (v : ButtonLevels) : (s.setBtnPrev v).slowPre = s.slowPre := rfl
@[simp] theorem State.setBtnPrev_slowCnt (v : ButtonLevels) : (s.setBtnPrev v).slowCnt = s.slowCnt := rfl
@[simp] theorem State.setBtnPrev_cycle (v : ButtonLevels) : (s.setBtnPrev v).cycle = s.cycle := rfl
@[simp] theorem State.setBtnPrev_trace (v : ButtonLevels) : (s.setBtnPrev v).trace = s.trace := rfl
@[simp] theorem State.setBtnPrev_inputs (v : ButtonLevels) : (s.setBtnPrev v).inputs = s.inputs := rfl
@[simp] theorem State.setBtnPrev_draws (v : ButtonLevels) : (s.setBtnPrev v).draws = s.draws := rfl

/-! `State.setDbCnt` -/

@[simp] theorem State.setDbCnt_et (i : Fin 3) (v : BitVec dbW) : (s.setDbCnt i v).et = s.et := rfl
@[simp] theorem State.setDbCnt_rf (i : Fin 3) (v : BitVec dbW) : (s.setDbCnt i v).rf = s.rf := rfl
@[simp] theorem State.setDbCnt_pos (i : Fin 3) (v : BitVec dbW) : (s.setDbCnt i v).pos = s.pos := rfl
@[simp] theorem State.setDbCnt_segOut (i : Fin 3) (v : BitVec dbW) : (s.setDbCnt i v).segOut = s.segOut := rfl
@[simp] theorem State.setDbCnt_selOut (i : Fin 3) (v : BitVec dbW) : (s.setDbCnt i v).selOut = s.selOut := rfl
@[simp] theorem State.setDbCnt_pendSlow (i : Fin 3) (v : BitVec dbW) : (s.setDbCnt i v).pendSlow = s.pendSlow := rfl
@[simp] theorem State.setDbCnt_pendFast (i : Fin 3) (v : BitVec dbW) : (s.setDbCnt i v).pendFast = s.pendFast := rfl
@[simp] theorem State.setDbCnt_ifg (i : Fin 3) (v : BitVec dbW) : (s.setDbCnt i v).ifg = s.ifg := rfl
@[simp] theorem State.setDbCnt_btnPrev (i : Fin 3) (v : BitVec dbW) : (s.setDbCnt i v).btnPrev = s.btnPrev := rfl
@[simp] theorem State.setDbCnt_dbCnt (i : Fin 3) (v : BitVec dbW) : (s.setDbCnt i v).dbCnt = s.dbCnt.set i v := rfl
@[simp] theorem State.setDbCnt_fastCnt (i : Fin 3) (v : BitVec dbW) : (s.setDbCnt i v).fastCnt = s.fastCnt := rfl
@[simp] theorem State.setDbCnt_slowPre (i : Fin 3) (v : BitVec dbW) : (s.setDbCnt i v).slowPre = s.slowPre := rfl
@[simp] theorem State.setDbCnt_slowCnt (i : Fin 3) (v : BitVec dbW) : (s.setDbCnt i v).slowCnt = s.slowCnt := rfl
@[simp] theorem State.setDbCnt_cycle (i : Fin 3) (v : BitVec dbW) : (s.setDbCnt i v).cycle = s.cycle := rfl
@[simp] theorem State.setDbCnt_trace (i : Fin 3) (v : BitVec dbW) : (s.setDbCnt i v).trace = s.trace := rfl
@[simp] theorem State.setDbCnt_inputs (i : Fin 3) (v : BitVec dbW) : (s.setDbCnt i v).inputs = s.inputs := rfl
@[simp] theorem State.setDbCnt_draws (i : Fin 3) (v : BitVec dbW) : (s.setDbCnt i v).draws = s.draws := rfl

/-! `State.setFastCnt` -/

@[simp] theorem State.setFastCnt_et (v : Counter) : (s.setFastCnt v).et = s.et := rfl
@[simp] theorem State.setFastCnt_rf (v : Counter) : (s.setFastCnt v).rf = s.rf := rfl
@[simp] theorem State.setFastCnt_pos (v : Counter) : (s.setFastCnt v).pos = s.pos := rfl
@[simp] theorem State.setFastCnt_segOut (v : Counter) : (s.setFastCnt v).segOut = s.segOut := rfl
@[simp] theorem State.setFastCnt_selOut (v : Counter) : (s.setFastCnt v).selOut = s.selOut := rfl
@[simp] theorem State.setFastCnt_pendSlow (v : Counter) : (s.setFastCnt v).pendSlow = s.pendSlow := rfl
@[simp] theorem State.setFastCnt_pendFast (v : Counter) : (s.setFastCnt v).pendFast = s.pendFast := rfl
@[simp] theorem State.setFastCnt_ifg (v : Counter) : (s.setFastCnt v).ifg = s.ifg := rfl
@[simp] theorem State.setFastCnt_btnPrev (v : Counter) : (s.setFastCnt v).btnPrev = s.btnPrev := rfl
@[simp] theorem State.setFastCnt_dbCnt (v : Counter) : (s.setFastCnt v).dbCnt = s.dbCnt := rfl
@[simp] theorem State.setFastCnt_fastCnt (v : Counter) : (s.setFastCnt v).fastCnt = v := rfl
@[simp] theorem State.setFastCnt_slowPre (v : Counter) : (s.setFastCnt v).slowPre = s.slowPre := rfl
@[simp] theorem State.setFastCnt_slowCnt (v : Counter) : (s.setFastCnt v).slowCnt = s.slowCnt := rfl
@[simp] theorem State.setFastCnt_cycle (v : Counter) : (s.setFastCnt v).cycle = s.cycle := rfl
@[simp] theorem State.setFastCnt_trace (v : Counter) : (s.setFastCnt v).trace = s.trace := rfl
@[simp] theorem State.setFastCnt_inputs (v : Counter) : (s.setFastCnt v).inputs = s.inputs := rfl
@[simp] theorem State.setFastCnt_draws (v : Counter) : (s.setFastCnt v).draws = s.draws := rfl

/-! `State.setSlowPre` -/

@[simp] theorem State.setSlowPre_et (v : Counter) : (s.setSlowPre v).et = s.et := rfl
@[simp] theorem State.setSlowPre_rf (v : Counter) : (s.setSlowPre v).rf = s.rf := rfl
@[simp] theorem State.setSlowPre_pos (v : Counter) : (s.setSlowPre v).pos = s.pos := rfl
@[simp] theorem State.setSlowPre_segOut (v : Counter) : (s.setSlowPre v).segOut = s.segOut := rfl
@[simp] theorem State.setSlowPre_selOut (v : Counter) : (s.setSlowPre v).selOut = s.selOut := rfl
@[simp] theorem State.setSlowPre_pendSlow (v : Counter) : (s.setSlowPre v).pendSlow = s.pendSlow := rfl
@[simp] theorem State.setSlowPre_pendFast (v : Counter) : (s.setSlowPre v).pendFast = s.pendFast := rfl
@[simp] theorem State.setSlowPre_ifg (v : Counter) : (s.setSlowPre v).ifg = s.ifg := rfl
@[simp] theorem State.setSlowPre_btnPrev (v : Counter) : (s.setSlowPre v).btnPrev = s.btnPrev := rfl
@[simp] theorem State.setSlowPre_dbCnt (v : Counter) : (s.setSlowPre v).dbCnt = s.dbCnt := rfl
@[simp] theorem State.setSlowPre_fastCnt (v : Counter) : (s.setSlowPre v).fastCnt = s.fastCnt := rfl
@[simp] theorem State.setSlowPre_slowPre (v : Counter) : (s.setSlowPre v).slowPre = v := rfl
@[simp] theorem State.setSlowPre_slowCnt (v : Counter) : (s.setSlowPre v).slowCnt = s.slowCnt := rfl
@[simp] theorem State.setSlowPre_cycle (v : Counter) : (s.setSlowPre v).cycle = s.cycle := rfl
@[simp] theorem State.setSlowPre_trace (v : Counter) : (s.setSlowPre v).trace = s.trace := rfl
@[simp] theorem State.setSlowPre_inputs (v : Counter) : (s.setSlowPre v).inputs = s.inputs := rfl
@[simp] theorem State.setSlowPre_draws (v : Counter) : (s.setSlowPre v).draws = s.draws := rfl

/-! `State.setSlowCnt` -/

@[simp] theorem State.setSlowCnt_et (v : Counter) : (s.setSlowCnt v).et = s.et := rfl
@[simp] theorem State.setSlowCnt_rf (v : Counter) : (s.setSlowCnt v).rf = s.rf := rfl
@[simp] theorem State.setSlowCnt_pos (v : Counter) : (s.setSlowCnt v).pos = s.pos := rfl
@[simp] theorem State.setSlowCnt_segOut (v : Counter) : (s.setSlowCnt v).segOut = s.segOut := rfl
@[simp] theorem State.setSlowCnt_selOut (v : Counter) : (s.setSlowCnt v).selOut = s.selOut := rfl
@[simp] theorem State.setSlowCnt_pendSlow (v : Counter) : (s.setSlowCnt v).pendSlow = s.pendSlow := rfl
@[simp] theorem State.setSlowCnt_pendFast (v : Counter) : (s.setSlowCnt v).pendFast = s.pendFast := rfl
@[simp] theorem State.setSlowCnt_ifg (v : Counter) : (s.setSlowCnt v).ifg = s.ifg := rfl
@[simp] theorem State.setSlowCnt_btnPrev (v : Counter) : (s.setSlowCnt v).btnPrev = s.btnPrev := rfl
@[simp] theorem State.setSlowCnt_dbCnt (v : Counter) : (s.setSlowCnt v).dbCnt = s.dbCnt := rfl
@[simp] theorem State.setSlowCnt_fastCnt (v : Counter) : (s.setSlowCnt v).fastCnt = s.fastCnt := rfl
@[simp] theorem State.setSlowCnt_slowPre (v : Counter) : (s.setSlowCnt v).slowPre = s.slowPre := rfl
@[simp] theorem State.setSlowCnt_slowCnt (v : Counter) : (s.setSlowCnt v).slowCnt = v := rfl
@[simp] theorem State.setSlowCnt_cycle (v : Counter) : (s.setSlowCnt v).cycle = s.cycle := rfl
@[simp] theorem State.setSlowCnt_trace (v : Counter) : (s.setSlowCnt v).trace = s.trace := rfl
@[simp] theorem State.setSlowCnt_inputs (v : Counter) : (s.setSlowCnt v).inputs = s.inputs := rfl
@[simp] theorem State.setSlowCnt_draws (v : Counter) : (s.setSlowCnt v).draws = s.draws := rfl

/-! `State.emitSeg` -/

@[simp] theorem State.emitSeg_et (v : SegPattern) : (s.emitSeg v).et = s.et := rfl
@[simp] theorem State.emitSeg_rf (v : SegPattern) : (s.emitSeg v).rf = s.rf := rfl
@[simp] theorem State.emitSeg_pos (v : SegPattern) : (s.emitSeg v).pos = s.pos := rfl
@[simp] theorem State.emitSeg_segOut (v : SegPattern) : (s.emitSeg v).segOut = v := rfl
@[simp] theorem State.emitSeg_selOut (v : SegPattern) : (s.emitSeg v).selOut = s.selOut := rfl
@[simp] theorem State.emitSeg_pendSlow (v : SegPattern) : (s.emitSeg v).pendSlow = s.pendSlow := rfl
@[simp] theorem State.emitSeg_pendFast (v : SegPattern) : (s.emitSeg v).pendFast = s.pendFast := rfl
@[simp] theorem State.emitSeg_ifg (v : SegPattern) : (s.emitSeg v).ifg = s.ifg := rfl
@[simp] theorem State.emitSeg_btnPrev (v : SegPattern) : (s.emitSeg v).btnPrev = s.btnPrev := rfl
@[simp] theorem State.emitSeg_dbCnt (v : SegPattern) : (s.emitSeg v).dbCnt = s.dbCnt := rfl
@[simp] theorem State.emitSeg_fastCnt (v : SegPattern) : (s.emitSeg v).fastCnt = s.fastCnt := rfl
@[simp] theorem State.emitSeg_slowPre (v : SegPattern) : (s.emitSeg v).slowPre = s.slowPre := rfl
@[simp] theorem State.emitSeg_slowCnt (v : SegPattern) : (s.emitSeg v).slowCnt = s.slowCnt := rfl
@[simp] theorem State.emitSeg_cycle (v : SegPattern) : (s.emitSeg v).cycle = s.cycle := rfl
@[simp] theorem State.emitSeg_trace (v : SegPattern) : (s.emitSeg v).trace = s.trace ++ [⟨s.cycle, .segOut v⟩] := rfl
@[simp] theorem State.emitSeg_inputs (v : SegPattern) : (s.emitSeg v).inputs = s.inputs := rfl
@[simp] theorem State.emitSeg_draws (v : SegPattern) : (s.emitSeg v).draws = s.draws := rfl

/-! `State.emitSel` -/

@[simp] theorem State.emitSel_et (v : SelPattern) : (s.emitSel v).et = s.et := rfl
@[simp] theorem State.emitSel_rf (v : SelPattern) : (s.emitSel v).rf = s.rf := rfl
@[simp] theorem State.emitSel_pos (v : SelPattern) : (s.emitSel v).pos = s.pos := rfl
@[simp] theorem State.emitSel_segOut (v : SelPattern) : (s.emitSel v).segOut = s.segOut := rfl
@[simp] theorem State.emitSel_selOut (v : SelPattern) : (s.emitSel v).selOut = v := rfl
@[simp] theorem State.emitSel_pendSlow (v : SelPattern) : (s.emitSel v).pendSlow = s.pendSlow := rfl
@[simp] theorem State.emitSel_pendFast (v : SelPattern) : (s.emitSel v).pendFast = s.pendFast := rfl
@[simp] theorem State.emitSel_ifg (v : SelPattern) : (s.emitSel v).ifg = s.ifg := rfl
@[simp] theorem State.emitSel_btnPrev (v : SelPattern) : (s.emitSel v).btnPrev = s.btnPrev := rfl
@[simp] theorem State.emitSel_dbCnt (v : SelPattern) : (s.emitSel v).dbCnt = s.dbCnt := rfl
@[simp] theorem State.emitSel_fastCnt (v : SelPattern) : (s.emitSel v).fastCnt = s.fastCnt := rfl
@[simp] theorem State.emitSel_slowPre (v : SelPattern) : (s.emitSel v).slowPre = s.slowPre := rfl
@[simp] theorem State.emitSel_slowCnt (v : SelPattern) : (s.emitSel v).slowCnt = s.slowCnt := rfl
@[simp] theorem State.emitSel_cycle (v : SelPattern) : (s.emitSel v).cycle = s.cycle := rfl
@[simp] theorem State.emitSel_trace (v : SelPattern) : (s.emitSel v).trace = s.trace ++ [⟨s.cycle, .selOut v⟩] := rfl
@[simp] theorem State.emitSel_inputs (v : SelPattern) : (s.emitSel v).inputs = s.inputs := rfl
@[simp] theorem State.emitSel_draws (v : SelPattern) : (s.emitSel v).draws = s.draws := rfl

/-! `State.withPins` -/

@[simp] theorem State.withPins_et (p : Pins) : (s.withPins p).et = s.et := rfl
@[simp] theorem State.withPins_rf (p : Pins) : (s.withPins p).rf = s.rf := rfl
@[simp] theorem State.withPins_pos (p : Pins) : (s.withPins p).pos = s.pos := rfl
@[simp] theorem State.withPins_segOut (p : Pins) : (s.withPins p).segOut = s.segOut := rfl
@[simp] theorem State.withPins_selOut (p : Pins) : (s.withPins p).selOut = s.selOut := rfl
@[simp] theorem State.withPins_pendSlow (p : Pins) : (s.withPins p).pendSlow = s.pendSlow := rfl
@[simp] theorem State.withPins_pendFast (p : Pins) : (s.withPins p).pendFast = s.pendFast := rfl
@[simp] theorem State.withPins_ifg (p : Pins) : (s.withPins p).ifg = s.ifg := rfl
@[simp] theorem State.withPins_btnPrev (p : Pins) : (s.withPins p).btnPrev = s.btnPrev := rfl
@[simp] theorem State.withPins_dbCnt (p : Pins) : (s.withPins p).dbCnt = s.dbCnt := rfl
@[simp] theorem State.withPins_fastCnt (p : Pins) : (s.withPins p).fastCnt = s.fastCnt := rfl
@[simp] theorem State.withPins_slowPre (p : Pins) : (s.withPins p).slowPre = s.slowPre := rfl
@[simp] theorem State.withPins_slowCnt (p : Pins) : (s.withPins p).slowCnt = s.slowCnt := rfl
@[simp] theorem State.withPins_cycle (p : Pins) : (s.withPins p).cycle = s.cycle := rfl
@[simp] theorem State.withPins_trace (p : Pins) : (s.withPins p).trace = s.trace := rfl
@[simp] theorem State.withPins_inputs (p : Pins) : (s.withPins p).inputs = p :: s.inputs.tail := rfl
@[simp] theorem State.withPins_draws (p : Pins) : (s.withPins p).draws = s.draws := rfl

/-! `State.nextCycle` -/

@[simp] theorem State.nextCycle_et : s.nextCycle.et = s.et := rfl
@[simp] theorem State.nextCycle_rf : s.nextCycle.rf = s.rf := rfl
@[simp] theorem State.nextCycle_pos : s.nextCycle.pos = s.pos := rfl
@[simp] theorem State.nextCycle_segOut : s.nextCycle.segOut = s.segOut := rfl
@[simp] theorem State.nextCycle_selOut : s.nextCycle.selOut = s.selOut := rfl
@[simp] theorem State.nextCycle_pendSlow : s.nextCycle.pendSlow = s.pendSlow := rfl
@[simp] theorem State.nextCycle_pendFast : s.nextCycle.pendFast = s.pendFast := rfl
@[simp] theorem State.nextCycle_ifg : s.nextCycle.ifg = s.ifg := rfl
@[simp] theorem State.nextCycle_btnPrev : s.nextCycle.btnPrev = s.btnPrev := rfl
@[simp] theorem State.nextCycle_dbCnt : s.nextCycle.dbCnt = s.dbCnt := rfl
@[simp] theorem State.nextCycle_fastCnt : s.nextCycle.fastCnt = s.fastCnt := rfl
@[simp] theorem State.nextCycle_slowPre : s.nextCycle.slowPre = s.slowPre := rfl
@[simp] theorem State.nextCycle_slowCnt : s.nextCycle.slowCnt = s.slowCnt := rfl
@[simp] theorem State.nextCycle_cycle : s.nextCycle.cycle = s.cycle + 1 := rfl
@[simp] theorem State.nextCycle_trace : s.nextCycle.trace = s.trace := rfl
@[simp] theorem State.nextCycle_inputs : s.nextCycle.inputs = s.inputs := rfl
@[simp] theorem State.nextCycle_draws : s.nextCycle.draws = s.draws := rfl

/-! `State.setFront` -/

@[simp] theorem State.setFront_et (f : EdgeFront dbW) :
    (s.setFront f).et = s.et := rfl
@[simp] theorem State.setFront_rf (f : EdgeFront dbW) :
    (s.setFront f).rf = s.rf := rfl
@[simp] theorem State.setFront_pos (f : EdgeFront dbW) :
    (s.setFront f).pos = s.pos := rfl
@[simp] theorem State.setFront_segOut (f : EdgeFront dbW) :
    (s.setFront f).segOut = s.segOut := rfl
@[simp] theorem State.setFront_selOut (f : EdgeFront dbW) :
    (s.setFront f).selOut = s.selOut := rfl
@[simp] theorem State.setFront_pendSlow (f : EdgeFront dbW) :
    (s.setFront f).pendSlow = s.pendSlow := rfl
@[simp] theorem State.setFront_pendFast (f : EdgeFront dbW) :
    (s.setFront f).pendFast = s.pendFast := rfl
@[simp] theorem State.setFront_ifg (f : EdgeFront dbW) :
    (s.setFront f).ifg = f.ifg := rfl
@[simp] theorem State.setFront_btnPrev (f : EdgeFront dbW) :
    (s.setFront f).btnPrev = f.btnPrev := rfl
@[simp] theorem State.setFront_dbCnt (f : EdgeFront dbW) :
    (s.setFront f).dbCnt = f.dbCnt := rfl
@[simp] theorem State.setFront_fastCnt (f : EdgeFront dbW) :
    (s.setFront f).fastCnt = s.fastCnt := rfl
@[simp] theorem State.setFront_slowPre (f : EdgeFront dbW) :
    (s.setFront f).slowPre = s.slowPre := rfl
@[simp] theorem State.setFront_slowCnt (f : EdgeFront dbW) :
    (s.setFront f).slowCnt = s.slowCnt := rfl
@[simp] theorem State.setFront_cycle (f : EdgeFront dbW) :
    (s.setFront f).cycle = s.cycle := rfl
@[simp] theorem State.setFront_trace (f : EdgeFront dbW) :
    (s.setFront f).trace = s.trace := rfl
@[simp] theorem State.setFront_inputs (f : EdgeFront dbW) :
    (s.setFront f).inputs = s.inputs := rfl
@[simp] theorem State.setFront_draws (f : EdgeFront dbW) :
    (s.setFront f).draws = s.draws := rfl

@[simp] theorem State.front_ifg : s.front.ifg = s.ifg := rfl
@[simp] theorem State.front_btnPrev : s.front.btnPrev = s.btnPrev := rfl
@[simp] theorem State.front_dbCnt : s.front.dbCnt = s.dbCnt := rfl

end Sys2Proof.Machine
end

