-- ==== Sys2Proof/Laws/Capture.lean ====
section
/-!
SUPPORT. The capture phase (R137, R138, R142 to R144): each part as one record update, and what the whole phase can
write.
-/
namespace Sys2Proof.Machine

/-- Short of the end of its 16 bits a counter counts by one. -/
theorem countUp_eq_add_one (k : TickCounter) {v : Counter} (h : v ≠ 0xFFFF#16) : countUp k v = v + 1#16 := if_neg h

/-- In a reachable state (R37 (f)) a counter is short of that end. -/
theorem countUp_toNat (k : TickCounter) {v : Counter} (h : v.toNat < 65535) : (countUp k v).toNat = v.toNat + 1 := by
  rw [countUp_eq_add_one k (by rintro rfl; simp at h), BitVec.toNat_add_of_lt] <;> simp
  omega

theorem tickFast_eq (c : Params) (s : State) :
    tickFast c s =
      { s with
        fastCnt := if s.fastCnt = lastCount c.fastDiv then 0#16 else countUp .fastCnt s.fastCnt
        pendFast := s.pendFast || s.fastCnt == lastCount c.fastDiv } := by
  unfold tickFast
  by_cases h : s.fastCnt = lastCount c.fastDiv <;> simp [h, State.setFastCnt, State.setPendFast]

theorem tickSlow_eq (c : Params) (s : State) :
    tickSlow c s =
      { s with
        slowPre := if s.slowPre = lastCount c.slowPrescale then 0#16 else countUp .slowPre s.slowPre
        slowCnt :=
          if s.slowPre = lastCount c.slowPrescale then
            if s.slowCnt = lastCount c.slowDiv then 0#16 else countUp .slowCnt s.slowCnt
          else s.slowCnt
        pendSlow := s.pendSlow || (s.slowPre == lastCount c.slowPrescale && s.slowCnt == lastCount c.slowDiv) } := by
  unfold tickSlow
  by_cases h : s.slowPre = lastCount c.slowPrescale
  · by_cases h' : s.slowCnt = lastCount c.slowDiv <;>
      simp [h, h', State.setSlowPre, State.setSlowCnt, State.setPendSlow]
  · simp [h, State.setSlowPre]

variable {w : Nat}

/-- A line has a press edge that is not locked out (R142). -/
def acceptedEdge (btnIn : ButtonLevels) (f : EdgeFront w) (i : Fin 3) : Bool :=
  f.btnPrev.getLsbD i && !btnIn.getLsbD i && f.dbCnt[i] == 0#w

/-- What a lockout counter counts to in a capture without an accepted edge: one less, and 0 stays 0 (R142). -/
def countDown (v : BitVec w) : BitVec w := if v = 0#w then 0#w else v - 1#w

theorem countDown_toNat (v : BitVec w) : (countDown v).toNat = v.toNat - 1 := by
  unfold countDown
  split
  · simp_all
  · rename_i h
    have hv : v.toNat ≠ 0 := fun e => h (BitVec.eq_of_toNat_eq (by simpa using e))
    have hw : 1 < 2 ^ w := by have := v.isLt; omega
    have h1 : (1#w).toNat = 1 := by simp [Nat.mod_eq_of_lt hw]
    rw [BitVec.toNat_sub_of_le (by rw [BitVec.le_def, h1]; omega), h1]

theorem edgeLine_eq (d : Nat) (btnIn : ButtonLevels) (f : EdgeFront w) (i : Fin 3) :
    edgeLine d btnIn f i =
      { ifg := if acceptedEdge btnIn f i then setBit f.ifg i true else f.ifg
        btnPrev := setBit f.btnPrev i (btnIn.getLsbD i)
        dbCnt := f.dbCnt.set i (if acceptedEdge btnIn f i then BitVec.ofNat w d else countDown f.dbCnt[i]) } := by
  unfold edgeLine acceptedEdge countDown
  by_cases hd : f.dbCnt[i] = 0#w
  · have hset : f.dbCnt.set i (0#w) = f.dbCnt := by rw [← hd]; exact Vector.set_getElem_self i.isLt
    cases hp : f.btnPrev.getLsbD i <;> cases hb : btnIn.getLsbD i <;> simp_all
  · cases hp : f.btnPrev.getLsbD i <;> cases hb : btnIn.getLsbD i <;> simp_all

/-- The edge detector on the state writes IFG, BTN_PREV and DB_CNT alone. -/
theorem detectEdges_eq (c : Params) (btnIn : ButtonLevels) (s : State) :
    detectEdges c btnIn s =
      { s with
        ifg := (edgeDetect c.debounceCycles btnIn s.front).ifg
        btnPrev := (edgeDetect c.debounceCycles btnIn s.front).btnPrev
        dbCnt := (edgeDetect c.debounceCycles btnIn s.front).dbCnt } := rfl

theorem otherEdge_eq (e : Bool) (s : State) :
    otherEdge e s = { s with ifg := if e then setBit s.ifg 3 true else s.ifg } := by
  cases e <;> rfl

/-- The levels sampled are kept whole. -/
theorem edgeDetect_btnPrev (d : Nat) (btnIn : ButtonLevels) (f : EdgeFront w) :
    (edgeDetect d btnIn f).btnPrev = btnIn := by
  have all : ∀ p b : BitVec 3,
      setBit (setBit (setBit p 0 (b.getLsbD 0)) 1 (b.getLsbD 1)) 2 (b.getLsbD 2) = b := by decide
  simpa [edgeDetect, edgeLine_eq] using all f.btnPrev btnIn

/-- A numbered bit reads back as it was written, and no other bit moves. -/
theorem getLsbD_setBit {w : Nat} (v : BitVec w) {i : Nat} (hi : i < w) (b : Bool) (j : Nat) :
    (setBit v i b).getLsbD j = if j = i then b else v.getLsbD j := by
  unfold setBit
  by_cases h : j = i
  · subst h
    cases b
    · simp; omega
    · simp; omega
  · by_cases hj : j < w
    · by_cases hlt : j < i
      · cases b <;> simp [h, hj, hlt]
      · cases b <;> simp [h, hj, hlt] <;> omega
    · cases b <;> simp [h, BitVec.getLsbD_of_ge _ _ (Nat.not_lt.mp hj)]

theorem getElem_setBit {w : Nat} (v : BitVec w) {i : Nat} (hi : i < w) (b : Bool) (j : Nat) (hj : j < w) :
    (setBit v i b)[j] = if j = i then b else v[j] := by
  have := getLsbD_setBit v hi b j
  rwa [BitVec.getLsbD_eq_getElem hj, BitVec.getLsbD_eq_getElem hj] at this

/-- A line's edge does not depend on the lines served before it. -/
theorem acceptedEdge_edgeLine (d : Nat) (btnIn : ButtonLevels) (f : EdgeFront w) {i j : Fin 3} (h : i ≠ j) :
    acceptedEdge btnIn (edgeLine d btnIn f i) j = acceptedEdge btnIn f j := by
  rw [edgeLine_eq]
  unfold acceptedEdge
  have hv : (i : Nat) ≠ j := fun e => h (Fin.ext e)
  have hb := getLsbD_setBit f.btnPrev i.isLt (btnIn.getLsbD i) j
  rw [if_neg hv.symm] at hb
  simp only [hb]
  congr 2
  exact Vector.getElem_set_ne i.isLt j.isLt hv

/-- IFG after the edge detector: each accepted edge sets its line's bit (R142). -/
theorem edgeDetect_ifg (d : Nat) (btnIn : ButtonLevels) (f : EdgeFront w) :
    (edgeDetect d btnIn f).ifg =
      let v := if acceptedEdge btnIn f 0 then setBit f.ifg 0 true else f.ifg
      let v := if acceptedEdge btnIn f 1 then setBit v 1 true else v
      if acceptedEdge btnIn f 2 then setBit v 2 true else v := by
  unfold edgeDetect
  rw [edgeLine_eq, acceptedEdge_edgeLine _ _ _ (by decide), acceptedEdge_edgeLine _ _ _ (by decide), edgeLine_eq,
    acceptedEdge_edgeLine _ _ _ (by decide), edgeLine_eq]
  rfl

/-- DB_CNT after the edge detector: loaded by an accepted edge, else counted down (R142, R143). -/
theorem edgeDetect_dbCnt (d : Nat) (btnIn : ButtonLevels) (f : EdgeFront w) (i : Fin 3) :
    (edgeDetect d btnIn f).dbCnt[i] =
      if acceptedEdge btnIn f i then BitVec.ofNat w d else countDown f.dbCnt[i] := by
  unfold edgeDetect
  rw [edgeLine_eq, acceptedEdge_edgeLine _ _ _ (by decide), acceptedEdge_edgeLine _ _ _ (by decide), edgeLine_eq,
    acceptedEdge_edgeLine _ _ _ (by decide), edgeLine_eq]
  fin_cases i <;> simp

/-- What phase 2 can write (R152). -/
theorem capture_eq (c : Params) (p : Pins) (s : State) :
    ∃ f d, capture c p s =
      { s with
        pendSlow := (tickSlow c s).pendSlow
        pendFast := (tickFast c s).pendFast
        fastCnt := (tickFast c s).fastCnt
        slowPre := (tickSlow c s).slowPre
        slowCnt := (tickSlow c s).slowCnt
        ifg := f
        btnPrev := p.btnIn
        dbCnt := d } := by
  unfold capture
  rw [detectEdges_eq, edgeDetect_btnPrev, otherEdge_eq, tickSlow_eq, tickSlow_eq, tickFast_eq]
  exact ⟨_, _, rfl⟩

end Sys2Proof.Machine
end

