-- ==== Sys2Proof/Laws/Ops.lean ====
section
/-!
SUPPORT. The shared operations and the meanings, each said once: what its result is, field by field or as a whole.
-/
namespace Sys2Proof.Machine

/-! Inputs. -/

@[simp] theorem pins_withPins (s : State) (p : Pins) : (s.withPins p).pins = p := rfl

/-- Using up an input sample changes the model's own two fields alone. -/
theorem dropInput_eq (s : State) :
    ∃ l n, s.dropInput = { s with inputs := l, draws := n } := by
  unfold State.dropInput
  split
  · exact ⟨_, _, rfl⟩
  · exact ⟨_, _, rfl⟩

/-! Service entry. -/

@[simp] theorem acknowledge_slow (s : State) : s.acknowledge 0b001#3 = s.setPendSlow false := rfl
@[simp] theorem acknowledge_fast (s : State) : s.acknowledge 0b010#3 = s.setPendFast false := rfl

/-- Every other grant leaves the state as it is. -/
theorem acknowledge_other (s : State) {g : Grant} (h1 : g ≠ 0b001#3) (h2 : g ≠ 0b010#3) : s.acknowledge g = s := by
  simp [State.acknowledge, h1, h2]

/-- Service entry writes the two timer indicators alone. -/
theorem acknowledge_eq (s : State) (g : Grant) :
    s.acknowledge g =
      { s with pendSlow := s.pendSlow && (g != 0b001#3), pendFast := s.pendFast && (g != 0b010#3) } := by
  by_cases h1 : g = 0b001#3
  · subst h1; simp [State.setPendSlow]
  · by_cases h2 : g = 0b010#3
    · subst h2; simp [State.setPendFast]
    · rw [acknowledge_other s h1 h2]; cases s; simp_all

/-! The meanings as record updates. -/

/-- SLOW changes ET and RF alone. -/
theorem slowTick_eq (c : Params) (s : State) :
    slowTick c s =
      { s with
        et := if s.rf && !atMax c s.et then bcdInc c.incNibble s.et else s.et
        rf := s.rf && !atMax c s.et && !atMax c (bcdInc c.incNibble s.et) } := by
  unfold slowTick
  by_cases h : s.rf = true
  · by_cases hm : atMax c s.et = true
    · simp [h, hm, State.setRf]
    · by_cases hn : atMax c (bcdInc c.incNibble s.et) = true
      · simp [h, hm, hn, State.setRf, State.setEt]
      · simp [h, hm, hn, State.setEt]
  · cases s; simp_all

/-- The three writes of one refresh (R96). -/
theorem refresh_eq (s : State) (v : SegPattern) (p : Nat) :
    s.refresh v p =
      { s with
        segOut := v
        selOut := select p
        trace := s.trace ++ [⟨s.cycle, .selOut 0x1F#5⟩, ⟨s.cycle, .segOut v⟩, ⟨s.cycle, .selOut (select p)⟩] } := by
  simp [State.refresh, State.emitSel, State.emitSeg]

theorem fastTick_digit (c : Params) {s : State} (h : s.pos ≤ 3#3) :
    fastTick c s = (s.refresh (segCode c (nib s.et s.pos.toNat)) s.pos.toNat).setPos (s.pos + 1#3) := by
  simp [fastTick, h]

theorem fastTick_separator (c : Params) {s : State} (h : s.pos = 4#3) :
    fastTick c s = (s.refresh c.sepPattern 4).setPos 0#3 := by
  simp [fastTick, h]

theorem fastTick_corrupted (c : Params) {s : State} (h : 4#3 < s.pos) : fastTick c s = s.setPos 0#3 := by
  have h3 : ¬ s.pos ≤ 3#3 := by bv_omega
  have h4 : ¬ s.pos = 4#3 := by bv_omega
  simp [fastTick, h3, h4]

/-- FAST changes POS, the two output registers and the trace alone. -/
theorem fastTick_eq (c : Params) (s : State) :
    ∃ p sg sl tr, fastTick c s = { s with pos := p, segOut := sg, selOut := sl, trace := tr } := by
  unfold fastTick
  dsimp only
  split
  · rw [refresh_eq]; exact ⟨_, _, _, _, rfl⟩
  · split
    · rw [refresh_eq]; exact ⟨_, _, _, _, rfl⟩
    · exact ⟨_, s.segOut, s.selOut, s.trace, rfl⟩

/-- The state an operation leads to: no operation stops. -/
def after (i : Instr) (s : State) : State :=
  match i with
  | .none => s
  | .slow => slowTick params s
  | .fast => fastTick params s
  | .start => (s.clearLine 0).setRf true
  | .pause => (s.clearLine 1).setRf false
  | .resetAction => ((s.clearLine 2).setEt 0x0000#16).setRf false
  | .spur => s.setIfg 0b0000#4

theorem exec_eq_next (i : Instr) (s : State) : exec i s = .next (after i s) := by cases i <;> rfl

/-- What any operation can write: ET, RF, POS, the outputs, the trace and IFG. -/
theorem after_eq (i : Instr) (s : State) :
    ∃ e r p sg sl tr f, after i s =
      { s with et := e, rf := r, pos := p, segOut := sg, selOut := sl, trace := tr, ifg := f } := by
  cases i with
  | none => exact ⟨s.et, s.rf, s.pos, s.segOut, s.selOut, s.trace, s.ifg, rfl⟩
  | slow => exact ⟨_, _, s.pos, s.segOut, s.selOut, s.trace, s.ifg, slowTick_eq params s⟩
  | fast =>
    obtain ⟨p, sg, sl, tr, h⟩ := fastTick_eq params s
    exact ⟨s.et, s.rf, p, sg, sl, tr, s.ifg, h⟩
  | start => exact ⟨s.et, true, s.pos, s.segOut, s.selOut, s.trace, _, rfl⟩
  | pause => exact ⟨s.et, false, s.pos, s.segOut, s.selOut, s.trace, _, rfl⟩
  | resetAction => exact ⟨0, false, s.pos, s.segOut, s.selOut, s.trace, _, rfl⟩
  | spur => exact ⟨s.et, s.rf, s.pos, s.segOut, s.selOut, s.trace, 0, rfl⟩

end Sys2Proof.Machine
end

