-- ==== Sys2Proof/Laws/PerInstr.lean ====
section
/-!
SUPPORT. Statements about every instruction as syntax, one lemma per constructor.
-/
namespace Sys2Proof.Laws.Coding

/-- The instruction is well formed, its opcode-table word is its GRANT code, and every reader of a word agrees on it. -/
def Statement (i : Instr) : Prop :=
  i.wellFormed = true ∧ decode (encode i) = .ok i ∧ decodeTableWord 8 (encode i).toNat = some i

theorem none : Statement .none := ⟨rfl, rfl, rfl⟩
theorem slow : Statement .slow := ⟨rfl, rfl, rfl⟩
theorem fast : Statement .fast := ⟨rfl, rfl, rfl⟩
theorem start : Statement .start := ⟨rfl, rfl, rfl⟩
theorem pause : Statement .pause := ⟨rfl, rfl, rfl⟩
theorem resetAction : Statement .resetAction := ⟨rfl, rfl, rfl⟩
theorem spur : Statement .spur := ⟨rfl, rfl, rfl⟩

end Sys2Proof.Laws.Coding
end

