-- ==== Sys2Proof/Laws/Step.lean ====
section
/-!
SUPPORT. The arbiter and the step, said once: what is granted, and the two ways a step goes on.
-/
namespace Sys2Proof.Machine

theorem decode_encode_ok (i : Instr) : decode (encode i) = .ok i := by cases i <;> rfl

theorem encode_injective {i j : Instr} (h : encode i = encode j) : i = j := by
  revert h; cases i <;> cases j <;> decide

/-- PEND_BTN says that IFG is not zero (R146). -/
theorem pendBtn_eq (s : State) : s.pendBtn = (s.ifg != 0#4) := by
  have all : ∀ f : BitVec 4, (f.getLsbD 0 || f.getLsbD 1 || f.getLsbD 2 || f.getLsbD 3) = (f != 0#4) := by decide
  exact all s.ifg

/-- A button service is one of the four button operations (R110). -/
theorem btnSelect_is_button (f : Indicators) : btnSelect f ≠ .none ∧ btnSelect f ≠ .slow ∧ btnSelect f ≠ .fast := by
  revert f; decide

/-- The operation the arbiter picks, as an instruction. -/
def granted (rank : BtnRank) (s : State) : Instr :=
  if s.pendSlow && !(s.pendBtn && btnAboveSlow rank) then .slow
  else if s.pendBtn && !(s.pendFast && !btnAboveFast rank) then btnSelect s.ifg
  else if s.pendFast then .fast
  else .none

/-- The arbiter's code is always that of an operation. -/
theorem arbitrate_eq_encode (rank : BtnRank) (s : State) : arbitrate rank s = encode (granted rank s) := by
  unfold arbitrate granted
  split
  · rfl
  · split
    · rfl
    · split <;> rfl

theorem arbitrate_eq_iff (rank : BtnRank) (s : State) (i : Instr) :
    arbitrate rank s = encode i ↔ granted rank s = i := by
  rw [arbitrate_eq_encode]; exact ⟨encode_injective, fun h => by rw [h]⟩

/-- The state phase 1 of a cycle leads to. -/
def State.served (rank : BtnRank) (s : State) : State :=
  after (granted rank s) (s.acknowledge (encode (granted rank s)))

/-- What phase 1 can write. -/
theorem served_eq (rank : BtnRank) (s : State) :
    ∃ e r p sg sl tr f, s.served rank =
      { s with
        et := e, rf := r, pos := p, segOut := sg, selOut := sl, trace := tr, ifg := f
        pendSlow := s.pendSlow && (arbitrate rank s != 0b001#3)
        pendFast := s.pendFast && (arbitrate rank s != 0b010#3) } := by
  unfold State.served
  obtain ⟨e, r, p, sg, sl, tr, f, h⟩ := after_eq (granted rank s) (s.acknowledge (encode (granted rank s)))
  rw [h, acknowledge_eq, arbitrate_eq_encode]
  exact ⟨_, _, _, _, _, _, _, rfl⟩

theorem service_eq (rank : BtnRank) (s : State) : service rank s = .next (s.served rank) := by
  unfold service State.served
  simp only [arbitrate_eq_encode, execute, decode_encode_ok, exec_eq_next]

theorem cycle_of_reset (rank : BtnRank) {s : State} (h : s.pins.rst = true) :
    cycle rank s = .next s.systemReset := by
  simp [cycle, h]

theorem cycle_of_run (rank : BtnRank) {s : State} (h : s.pins.rst = false) :
    cycle rank s = .next (finishCycle s.pins (s.served rank)) := by
  simp [cycle, h, service_eq]

/-- Everything a cycle can do, whatever BTN_RANK is. -/
theorem cycle_cases {rank : BtnRank} {s t : State} (h : cycle rank s = .next t) :
    (s.pins.rst = true ∧ t = s.systemReset) ∨
      (s.pins.rst = false ∧ t = finishCycle s.pins (s.served rank)) := by
  cases hr : s.pins.rst
  · rw [cycle_of_run rank hr] at h; exact .inr ⟨rfl, by injection h with h; exact h.symm⟩
  · rw [cycle_of_reset rank hr] at h; exact .inl ⟨rfl, by injection h with h; exact h.symm⟩

/-- Everything a step can do. -/
theorem step_cases {s t : State} (h : step s = .next t) :
    (s.pins.rst = true ∧ t = s.systemReset) ∨
      (s.pins.rst = false ∧ t = finishCycle s.pins (s.served params.btnRank)) :=
  cycle_cases h

/-- What a finished cycle has written beside the service (R152, R139). -/
theorem finishCycle_eq (p : Pins) (s : State) :
    ∃ f d l n, finishCycle p s =
      { s with
        pendSlow := (tickSlow params s).pendSlow
        pendFast := (tickFast params s).pendFast
        fastCnt := (tickFast params s).fastCnt
        slowPre := (tickSlow params s).slowPre
        slowCnt := (tickSlow params s).slowCnt
        ifg := f
        btnPrev := p.btnIn
        dbCnt := d
        cycle := s.cycle + 1
        inputs := l
        draws := n } := by
  unfold finishCycle
  obtain ⟨f, d, h⟩ := capture_eq params p s
  rw [h]
  obtain ⟨l, n, h'⟩ := dropInput_eq
    { s with
      pendSlow := (tickSlow params s).pendSlow
      pendFast := (tickFast params s).pendFast
      fastCnt := (tickFast params s).fastCnt
      slowPre := (tickSlow params s).slowPre
      slowCnt := (tickSlow params s).slowCnt
      ifg := f
      btnPrev := p.btnIn
      dbCnt := d }
  rw [h']
  exact ⟨f, d, l, n, rfl⟩

/-! The display does not reach the rest of a cycle (R38, R98). -/

/-- The state with other contents of POS, SEG_OUT, SEL_OUT and the trace. -/
def State.withDisplay (s : State) (p : Position) (sg : SegPattern) (sl : SelPattern) (tr : List Event) : State :=
  { s with pos := p, segOut := sg, selOut := sl, trace := tr }

variable (s : State) (p : Position) (sg : SegPattern) (sl : SelPattern) (tr : List Event)

theorem tickFast_withDisplay (c : Params) :
    tickFast c (s.withDisplay p sg sl tr) = (tickFast c s).withDisplay p sg sl tr := by
  rw [tickFast_eq, tickFast_eq]; rfl

theorem tickSlow_withDisplay (c : Params) :
    tickSlow c (s.withDisplay p sg sl tr) = (tickSlow c s).withDisplay p sg sl tr := by
  rw [tickSlow_eq, tickSlow_eq]; rfl

theorem detectEdges_withDisplay (c : Params) (btnIn : ButtonLevels) :
    detectEdges c btnIn (s.withDisplay p sg sl tr) = (detectEdges c btnIn s).withDisplay p sg sl tr := rfl

theorem otherEdge_withDisplay (e : Bool) :
    otherEdge e (s.withDisplay p sg sl tr) = (otherEdge e s).withDisplay p sg sl tr := by
  cases e <;> rfl

theorem dropInput_withDisplay :
    (s.withDisplay p sg sl tr).dropInput = s.dropInput.withDisplay p sg sl tr := by
  unfold State.dropInput State.withDisplay
  cases s.inputs <;> rfl

theorem finishCycle_withDisplay (q : Pins) :
    finishCycle q (s.withDisplay p sg sl tr) = (finishCycle q s).withDisplay p sg sl tr := by
  simp only [finishCycle, capture, tickFast_withDisplay, tickSlow_withDisplay, detectEdges_withDisplay,
    otherEdge_withDisplay, dropInput_withDisplay]
  rfl

end Sys2Proof.Machine
end

