-- ==== Sys2Proof/Tests/Slice0.lean ====
section
/-!
SUPPORT. Small tests, their expected values from spec/95_test_vectors.md and from the examples of the rules, and a
witness for the hypotheses of each statement in Certificates/Slice0/Obligations.lean.
-/
namespace Sys2Proof.Tests

open Sys2Proof.Machine

/-- A small state: reset, with the inputs of the next cycle fixed to released buttons. -/
def base : State := State.reset.withPins pinsReleased

/-- A state of given (ET, RF). -/
def timed (et : EtWord) (rf : Bool) : State := { base with et := et, rf := rf }

/-- A fact about the next state, false where the outcome is none. -/
def nextIs (r : Result) (f : State → Bool) : Bool :=
  match r with
  | .next t => f t
  | .fault _ => false
  | .refused _ => false

/-! ## Well-formedness: an ill-formed term for each check (R7) -/

theorem test_params_wellFormed : params.wellFormed = true := by decide
theorem test_fastDiv_zero_refused : (Params.divisorsInRange { params with fastDiv := 0 }) = false := by decide
theorem test_slowPrescale_zero_refused : (Params.divisorsInRange { params with slowPrescale := 0 }) = false := by decide
theorem test_slowDiv_too_large_refused : (Params.divisorsInRange { params with slowDiv := 65537 }) = false := by decide
theorem test_incNibble_four_refused : (Params.incNibbleInRange { params with incNibble := 4 }) = false := by decide
theorem test_bad_divisor_ill_formed : (Params.wellFormed { params with fastDiv := 65537 }) = false := by decide
theorem test_bad_nibble_ill_formed : (Params.wellFormed { params with incNibble := 7 }) = false := by decide
theorem test_wide_pos_refused : (Assignment.mk .pos 8).fits = false := by decide
theorem test_every_instruction_wellFormed :
    ([.none, .slow, .fast, .start, .pause, .resetAction, .spur] : List Instr).all Instr.wellFormed = true := by decide

/-! ## Decoding: each word written bit by bit from R55 -/

theorem test_decode_none : decode 0b000#3 = .ok .none := by decide
theorem test_decode_slow : decode 0b001#3 = .ok .slow := by decide
theorem test_decode_fast : decode 0b010#3 = .ok .fast := by decide
theorem test_decode_reserved : decode 0b011#3 = .error .reservedGrant := by decide
theorem test_decode_start : decode 0b100#3 = .ok .start := by decide
theorem test_decode_pause : decode 0b101#3 = .ok .pause := by decide
theorem test_decode_reset : decode 0b110#3 = .ok .resetAction := by decide
theorem test_decode_spur : decode 0b111#3 = .ok .spur := by decide
theorem test_decode_four_bits : decodeWord 0b1001 = .error .notAGrantCode := by decide
theorem test_table_word : decodeTableWord 8 0b110 = some .resetAction ∧ decodeTableWord 8 0b011 = none := by decide

/-! ## The functions, against the tables of spec/95 -/

/-- Section 2.1. -/
theorem test_bcdInc_vectors :
    ([0x0000, 0x0090, 0x0990, 0x5990, 0x9890, 0x9980, 0x9990, 0x9995, 0x0999, 0x00A0, 0x0A90, 0xFFF0, 0x000F]).map
        (bcdInc 1) =
      [0x0010, 0x0100, 0x1000, 0x6000, 0x9900, 0x9990, 0x0000, 0x0005, 0x1009, 0x0100, 0x1000, 0x0000, 0x001F] := by
  decide

/-- Section 2.2, the alternative parameters (0, 0x9999). -/
theorem test_slow_alternative_parameters :
    ([(0x0000, true), (0x0009, true), (0x9998, true), (0x9999, true)]).map (fun (e, r) =>
        let t := slowTick { params with incNibble := 0, etMax := 0x9999 } (timed e r)
        (t.et, t.rf)) =
      [(0x0001, true), (0x0010, true), (0x9999, false), (0x9999, false)] := by decide

/-- Section 2.5: the pending indicators (slow, button, fast) and the grants for HIGH, MID, LOW. -/
theorem test_arbiter_table :
    ([(false, false, false), (false, false, true), (false, true, false), (false, true, true), (true, false, false),
      (true, false, true), (true, true, false), (true, true, true)]).map (fun (sl, b, f) =>
        let s := { base with pendSlow := sl, pendFast := f, ifg := if b then 0b0010 else 0b0000 }
        (arbitrate .high s, arbitrate .mid s, arbitrate .low s)) =
      [(0b000, 0b000, 0b000), (0b010, 0b010, 0b010), (0b101, 0b101, 0b101), (0b101, 0b101, 0b010),
       (0b001, 0b001, 0b001), (0b001, 0b001, 0b001), (0b101, 0b001, 0b001), (0b101, 0b001, 0b001)] := by decide

/-- Section 2.7: BTN_PREV, BTN_IN and the IFG bits set. -/
theorem test_edge_vectors :
    ([(0b111, 0b111), (0b111, 0b110), (0b110, 0b110), (0b110, 0b111), (0b111, 0b101), (0b111, 0b011), (0b111, 0b000),
      (0b010, 0b100)]).map (fun (p, b) => (detectEdges params b { base with btnPrev := p }).ifg) =
      [0b0000, 0b0001, 0b0000, 0b0000, 0b0010, 0b0100, 0b0111, 0b0010] := by decide

/-- DB_W of 0, 1, 3, 4 and 255 (R31). -/
theorem test_dbWidth : [0, 1, 3, 4, 255].map dbWidth = [0, 1, 2, 3, 8] := by decide

/-- Section 2.7, DEBOUNCE_CYCLES = 3: of five captures only the first and the fifth set IFG[0]. -/
theorem test_debounce_vector :
    let capt := fun (f : EdgeFront 2) (b : ButtonLevels) => edgeDetect 3 b { f with ifg := 0b0000 }
    let f1 := capt ⟨0b0000, 0b111, Vector.replicate 3 0⟩ 0b110
    let f3 := capt (capt f1 0b111) 0b110
    let f4 := capt f3 0b111
    (f1.ifg, f3.ifg, f4.ifg, (capt f4 0b110).ifg) = (0b0001, 0b0000, 0b0000, 0b0001) := by decide

/-- R42: the two bytes of ET. -/
theorem test_et_bytes : etHigh 0x1250 = 0x12 ∧ etLow 0x1250 = 0x50 := by decide

/-! ## One operation each, from the rules' own examples -/

/-- R72: RF = 1, ET = 0x9980 gives ET = 0x9990, RF = 0. -/
theorem test_slow_stops : nextIs (exec .slow (timed 0x9980 true)) (fun t => t.et == 0x9990 && !t.rf) = true := by decide
/-- V2.2-10: the skipped maximum wraps and keeps running. -/
theorem test_slow_wraps : nextIs (exec .slow (timed 0x9999 true)) (fun t => t.et == 0x0009 && t.rf) = true := by decide
/-- R95: POS = 2, ET = 0x1250. -/
theorem test_fast_order :
    nextIs (exec .fast { timed 0x1250 true with pos := 2 }) (fun t => t.pos == 3 &&
      t.trace == [⟨0, .selOut 0x1F⟩, ⟨0, .segOut 0xA4⟩, ⟨0, .selOut 0x1B⟩]) = true := by decide
/-- V2.3-10. -/
theorem test_fast_corrupted :
    nextIs (exec .fast { timed 0x1250 true with pos := 6 }) (fun t => t.pos == 0 && t.trace == []) = true := by decide
/-- R111. -/
theorem test_start : nextIs (exec .start { timed 0x0420 false with ifg := 0b0001 })
    (fun t => t.rf && t.et == 0x0420 && t.ifg == 0b0000) = true := by decide
/-- R112. -/
theorem test_pause : nextIs (exec .pause { timed 0x0730 true with ifg := 0b0010 })
    (fun t => !t.rf && t.et == 0x0730 && t.ifg == 0b0000) = true := by decide
/-- R113. -/
theorem test_reset : nextIs (exec .resetAction { timed 0x5120 true with ifg := 0b0100 })
    (fun t => !t.rf && t.et == 0x0000 && t.ifg == 0b0000) = true := by decide
/-- R114. -/
theorem test_spur : nextIs (exec .spur { timed 0x0010 true with ifg := 0b1000 })
    (fun t => t.rf && t.et == 0x0010 && t.ifg == 0b0000) = true := by decide
/-- R115. -/
theorem test_none : exec .none (timed 0x0450 true) = .next (timed 0x0450 true) := rfl

/-! ## One cycle -/

/-- Section 2.8: a button held in cycle 0 sets IFG[0]. -/
theorem test_held_through_reset :
    nextIs (step (State.reset.withPins ⟨0b110, false, false⟩)) (fun t => t.ifg == 0b0001 && t.cycle == 1) = true := by
  decide
/-- Section 2.8: RST = 1 from any state. -/
theorem test_reset_pin :
    nextIs (step ({ timed 0x9990 true with pos := 7, cycle := 9 }.withPins ⟨0b000, true, true⟩))
      (fun t => t == State.reset) = true := by decide
/-- R152: a fast tick in the cycle that grants FAST leaves the indicator set. -/
theorem test_set_wins_over_clear :
    nextIs (step { base with pendFast := true, fastCnt := 1999 }) (fun t => t.pendFast && t.fastCnt == 0 && t.pos == 1)
      = true := by decide
/-- Program P5: SLOW and PAUSE pending together, the first grant for MID and HIGH. -/
theorem test_rank_decides :
    let s := { timed 0x0000 true with pendSlow := true, ifg := 0b0010 }
    nextIs (cycle .mid s) (fun t => t.et == 0x0010 && t.rf && t.ifg == 0b0010) = true ∧
      nextIs (cycle .high s) (fun t => t.et == 0x0000 && !t.rf && t.pendSlow) = true := by decide

/-! ## The stimulus language -/

/-- Program P1, text against binary form. -/
theorem test_program_text :
    (parseStimulus "SET ET=0x0000 RF=0 POS=0 IFG=0b0000\nSTART ; 100\nSECOND\nPAUSE\nSLOW\nSLOW\nRESET").map binaryForm =
      parseCodes "100 001 001 001 001 001 001 001 001 001 001 101 001 001 110" := by decide
/-- The first lines of program P4. -/
theorem test_cycle_text :
    parseStimulus "CYC 1 RST=1 ; system reset\nCYC 10\nCYC 5000 BTN=110" =
      some [.cyc 1 ⟨0b111, false, true⟩, .cyc 10 pinsReleased, .cyc 5000 ⟨0b110, false, false⟩] := by decide
theorem test_wide_value_text : parseStimulus "SET POS=9" = none := by decide
/-- A replay that meets the reserved code is refused (R63). -/
theorem test_reserved_replay : runCodes [0b000, 0b011] base = .refused .reservedGrant := rfl

/-! ## Witnesses: the hypotheses of each statement can be met -/

theorem witness_ResetPinRestoresEveryRegister : ∃ p : Pins, p.rst = true := ⟨⟨0b000, true, true⟩, rfl⟩

theorem witness_SlowServiceCountsAndStops :
    (∃ (rank : BtnRank) (s : State), arbitrate rank s = 0b001#3) ∧ (∃ s : State, s.rf = false) ∧
      (∃ s : State, s.rf = true ∧ s.et = 0x9990#16) ∧ (∃ s : State, s.rf = true ∧ s.et ≠ 0x9990#16) :=
  ⟨⟨.mid, { base with pendSlow := true }, by decide⟩, ⟨base, rfl⟩, ⟨timed 0x9990 true, by decide⟩,
    ⟨timed 0x9980 true, by decide⟩⟩

theorem witness_BcdIncrementByDigits : ∃ k i : Nat, k ≤ 3 ∧ i < 4 := ⟨3, 3, by decide⟩

/-- The three cases of the digit rule at their boundaries: reached and rolled, reached and counted, not reached. -/
theorem witness_BcdIncrementByDigits_cases :
    nib (bcdInc 1 0x0990) 2 = 0 ∧ nib (bcdInc 1 0x0990) 3 = 1 ∧ nib (bcdInc 1 0x0880) 2 = 8 ∧
      nib (bcdInc 3 0x9000) 3 = 0 ∧ nib (bcdInc 0 0x0009) 1 = 1 := by decide

theorem witness_BcdIncrementIsDecimalAddition :
    (∀ i < 4, 1 ≤ i → (nib 0x9990#16 i).toNat ≤ 9) ∧ (∀ i < 4, 0 ≤ i → (nib 0x9999#16 i).toNat ≤ 9) ∧
      (∀ i < 4, 3 ≤ i → (nib 0x9ABC#16 i).toNat ≤ 9) := by decide

theorem witness_StartAtMaximumStopsAtNextSlow : (timed 0x9990 false).et = 0x9990#16 := rfl

theorem witness_SkippedMaximumNeverStops : (timed 0x9995 true).rf = true ∧ nib (timed 0x9995 true).et 0 ≠ 0#4 := by decide

/-- The last start below the maximum, whose digit 2 does not carry, and one whose digit 2 does. -/
theorem witness_TenSlowTicksAdvanceTheSeconds :
    ∀ v ∈ [0x9800#16, 0x0900#16], (timed v true).rf = true ∧ BcdDigits (timed v true).et ∧
      nib (timed v true).et 0 = 0#4 ∧ nib (timed v true).et 1 = 0#4 ∧ decimalFrom 2 (timed v true).et < 99 := by
  simp only [List.forall_mem_cons, List.not_mem_nil, false_imp_iff, forall_const, and_true]
  unfold BcdDigits
  exact ⟨⟨rfl, by decide, by decide, by decide, by decide⟩, rfl, by decide, by decide, by decide, by decide⟩

theorem witness_CountingFromZeroStopsAtMaximum : (timed 0 true).rf = true ∧ (timed 0 true).et = 0x0000#16 := ⟨rfl, rfl⟩

theorem witness_SlowIgnoresTheDisplay : ({ base with pos := 3 } : State).pos.toNat ≤ 3 := by decide

theorem witness_SegmentCodecFollowsItsTable : (9#4).toNat < 10 ∧ 9 < (10#4).toNat := by decide

theorem witness_FastServiceRefreshesOnePosition :
    (∃ (rank : BtnRank) (s : State), arbitrate rank s = 0b010#3) ∧ ({ base with pos := 3 } : State).pos.toNat ≤ 3 ∧
      ({ base with pos := 4 } : State).pos.toNat = 4 ∧ 5 ≤ ({ base with pos := 5 } : State).pos.toNat :=
  ⟨⟨.low, { base with pendFast := true }, by decide⟩, by decide, by decide, by decide⟩

theorem witness_FastRepairsACorruptedPosition : 5 ≤ ({ base with pos := 5 } : State).pos.toNat := by decide

theorem witness_FastRunsWhateverTheRunFlag : Instr.slow ≠ .fast := by decide

theorem witness_FrameVisitsEachPositionOnce :
    ({ base with pos := 4 } : State).pos.toNat ≤ 4 ∧ 5 ≤ ({ base with pos := 7 } : State).pos.toNat := by decide

theorem witness_SpurClearsThePort : arbitrate .high { base with ifg := 0b1000 } = 0b111#3 := by decide

theorem witness_NoneLeavesTheStateAlone :
    arbitrate .mid base = 0b000#3 ∧ base.pendSlow = false ∧ base.pendFast = false ∧ base.ifg = 0b0000#4 := by decide

theorem witness_ButtonServiceTakesTheLowestLine :
    ({ base with ifg := 0b0110 } : State).ifg ≠ 0b0000#4 ∧ btnSelect 0b0110 = .pause ∧ btnSelect 0b0101 = .start ∧
      btnSelect 0b1100 = .resetAction ∧ btnSelect 0b1000 = .spur := by decide

theorem witness_ButtonActionsAreIdempotent : ∃ i : Instr, i = .start ∨ i = .pause ∨ i = .resetAction :=
  ⟨.pause, by decide⟩

theorem witness_SlowAndPauseDoNotCommute : (timed 0x0450 true).rf = true ∧ (timed 0x0450 true).et ≠ 0x9990#16 := by
  decide

/-- Each effective state is met (section 2.4). -/
theorem witness_EffectiveStates :
    (timed 0x0000 false).effective params = .idle ∧ (timed 0x0450 true).effective params = .running ∧
      (timed 0x0450 false).effective params = .paused ∧
      (timed 0x9990 false).effective params = .stoppedOverflow := by decide

theorem witness_MaximumIsLeftOnlyByReset :
    Instr.slow ≠ .resetAction ∧ (timed 0x9990 true).et = 0x9990#16 ∧ (timed 0x9990 true).pins.rst = false ∧
      arbitrate params.btnRank (timed 0x9990 true) ≠ 0b110#3 := by decide

theorem witness_SlowIsServedBeforeFast :
    let s := { timed 0x0450 true with pendSlow := true, pendFast := true, pos := 2 }
    s.pendSlow = true ∧ s.pendFast = true ∧ s.pins.rst = false ∧ arbitrate .mid s = 0b001#3 ∧
      nextIs (cycle .mid s) (fun t => decide (t.pos.toNat ≤ 3)) = true := by decide

/-- A witness for each clause, at the ranks where the clauses meet. -/
theorem witness_PendingSlowTickIsGrantedNext :
    let slow := { base with pendSlow := true, ifg := 0b0010 }
    let fast := { base with pendFast := true, ifg := 0b0010 }
    slow.pendSlow = true ∧ BtnRank.mid ≠ .high ∧ fast.pendSlow = false ∧ fast.pendFast = true ∧
      fast.ifg ≠ 0b0000#4 ∧ arbitrate .mid slow = 0b001#3 ∧ arbitrate .high slow = 0b101#3 ∧
      arbitrate .low fast = 0b010#3 ∧ arbitrate .mid fast = 0b101#3 := by decide

theorem witness_ReservedCodeIsRefusedAndNeverGranted : (0b010#3 : Grant) ≠ 0b011#3 := by decide

theorem witness_StepRunsTheGrantedOperation :
    let s := { base with pendFast := true }
    s.pins.rst = false ∧ decode (arbitrate params.btnRank s) = .ok .fast := by decide

theorem witness_IdleCycleKeepsTheRegisters :
    base.pendSlow = false ∧ base.pendFast = false ∧ base.ifg = 0b0000#4 ∧ base.pins.rst = false := by decide

theorem witness_TimekeepingIgnoresTheDisplay : SameButDisplay base { base with pos := 3, selOut := 0x17 } := rfl

/-- One state for each clause of the counters: the last value, 0xFFFF, and between. -/
theorem witness_TickGeneratorCountsAndPends :
    base.pins.rst = false ∧ { base with fastCnt := 1999 }.pins.rst = false ∧
      { base with fastCnt := 0xFFFF, slowPre := 0xFFFF }.pins.rst = false ∧
      { base with slowPre := 1, slowCnt := 0xFFFF }.pins.rst = false := ⟨rfl, rfl, rfl, rfl⟩

/-- A state with both ticks pending and an indicator set. -/
theorem witness_CaptureOnlySetsPendingBits :
    let s := { base with pendSlow := true, pendFast := true, ifg := 0b0010 }
    let t := capture params ⟨0b110, true, false⟩ s
    s.pendSlow = true ∧ s.pendFast = true ∧ t.ifg = 0b1011#4 := ⟨rfl, rfl, rfl⟩

/-- A line whose counter is 0 with a press edge, and one locked for two captures (DEBOUNCE_CYCLES = 3). -/
theorem witness_DebounceLocksALineOut :
    let f : EdgeFront (dbWidth 3) := ⟨0b0000, 0b111, #v[0, 2, 0]⟩
    (f.dbCnt[(0 : Fin 3)] = 0 ∧ f.btnPrev.getLsbD 0 = true ∧ (0b110#3).getLsbD 0 = false) ∧
      ([0b111#3, 0b110#3] : List ButtonLevels).length ≤ f.dbCnt[(1 : Fin 3)].toNat := by decide

theorem witness_DebounceCounterHasTheSmallestWidth : 4 < 2 ^ 3 ∧ dbWidth 4 = 3 := by decide

theorem witness_InPhase : State.InPhase base := ⟨by decide, by decide, by decide⟩

/-- The last cycle of the first fast period, and that of the first slow period. -/
theorem witness_TicksFallOnTheirPeriods :
    State.InPhase { base with cycle := 1999, fastCnt := 1999, slowPre := 1, slowCnt := 999 } ∧
      State.InPhase { base with cycle := 99999, fastCnt := 1999, slowPre := 1, slowCnt := 49999 } ∧
      base.pins.rst = false :=
  ⟨⟨by decide, by decide, by decide⟩, ⟨by decide, by decide, by decide⟩, rfl⟩

/-- A held button without and with another edge of the port. -/
theorem witness_HeldButtonIsOnePressAfterReset :
    ∀ other : Bool, (Pins.mk 0b110 other false).rst = false ∧ (Pins.mk 0b110 other false).btnIn ≠ 0b111#3 := by decide

theorem witness_StepKeepsReachableInvariants : base.Reachable ∧ ∃ t, step base = .next t :=
  ⟨⟨by unfold BcdDigits; decide, by decide, by decide, .inl rfl, by decide, by decide, by decide, by decide⟩, _, rfl⟩

theorem witness_RunningAtMaximumComesFromStart :
    let s := { timed 0x9990 false with ifg := 0b0001 }
    nextIs (step s) (fun t => t.rf && t.et == 0x9990) = true ∧ arbitrate params.btnRank s = 0b100#3 := by decide

theorem witness_StepKeepsCountersInPhase : base.InPhase ∧ ∃ t, step base = .next t := ⟨witness_InPhase, _, rfl⟩

theorem witness_StepKeepsTraceDiscipline :
    let s := { base with pendFast := true }
    s.TraceTells ∧ ∃ t, step s = .next t ∧ t.trace.length = 3 :=
  ⟨⟨rfl, by decide, by decide, rfl⟩, _, rfl, rfl⟩

end Sys2Proof.Tests
end

/-! Proofs of the slow-tick family: the cases of SLOW (spec/41_slow_tick_bcd_increment.md), then the statements. -/

namespace Sys2Proof.Machine

/-! The cases of SLOW (R72), for every choice of the parameters. -/

/-- The overflow comparison is equality on all 16 bits (R73). -/
theorem atMax_iff (c : Params) (v : EtWord) : atMax c v = true ↔ v = c.etMax := beq_iff_eq

theorem slowTick_stopped (c : Params) {s : State} (h : s.rf = false) : slowTick c s = s := by
  simp [slowTick, h]

/-- At the maximum SLOW leaves ET and ends with RF = 0, whatever RF was (R75). -/
theorem slowTick_atMax (c : Params) {s : State} (h : s.et = c.etMax) : slowTick c s = s.setRf false := by
  simp [slowTick_eq, (atMax_iff c s.et).mpr h, State.setRf]

/-- Below the maximum a running SLOW counts, and stops exactly if the result is the maximum. -/
theorem slowTick_counts (c : Params) {s : State} (h : s.rf = true) (hm : s.et ≠ c.etMax) :
    slowTick c s =
      { s with et := bcdInc c.incNibble s.et, rf := bcdInc c.incNibble s.et != c.etMax } := by
  have hn : atMax c s.et = false := Bool.eq_false_iff.mpr (mt (atMax_iff c s.et).mp hm)
  rw [slowTick_eq, h, hn]
  rfl

/-- SLOW commutes with any change of the display registers and of IFG: it neither reads nor writes them (R78). -/
theorem slowTick_withDisplayAndIfg (c : Params) (s : State) (p : Position) (sg : SegPattern) (sl : SelPattern)
    (f : Indicators) :
    slowTick c { s with pos := p, segOut := sg, selOut := sl, ifg := f } =
      { slowTick c s with pos := p, segOut := sg, selOut := sl, ifg := f } := by
  rw [slowTick_eq, slowTick_eq]

/-! What SLOW leaves unchanged of the display and the button port (R78). -/

@[simp] theorem slowTick_pos (c : Params) (s : State) : (slowTick c s).pos = s.pos := by rw [slowTick_eq]
@[simp] theorem slowTick_segOut (c : Params) (s : State) : (slowTick c s).segOut = s.segOut := by rw [slowTick_eq]
@[simp] theorem slowTick_selOut (c : Params) (s : State) : (slowTick c s).selOut = s.selOut := by rw [slowTick_eq]
@[simp] theorem slowTick_ifg (c : Params) (s : State) : (slowTick c s).ifg = s.ifg := by rw [slowTick_eq]

/-- A FAST at a digit's position drives that digit's pattern (R95). -/
theorem fastTick_segOut_digit (c : Params) {s : State} (h : s.pos ≤ 3#3) :
    (fastTick c s).segOut = segCode c (nib s.et s.pos.toNat) := by
  rw [fastTick_digit c h, refresh_eq, State.setPos_segOut]

/-- The arbiter picks SLOW only when it is pending: the button branch picks a button operation (R110, R147). -/
theorem pendSlow_of_granted_slow {rank : BtnRank} {s : State} (h : granted rank s = .slow) : s.pendSlow = true := by
  unfold granted at h
  split at h
  next hp => exact (Bool.and_eq_true_iff.mp hp).1
  next =>
    split at h
    next => exact absurd h (btnSelect_is_button s.ifg).2.1
    next => split at h <;> cases h

end Sys2Proof.Machine

namespace Sys2Proof.Proofs

open Sys2Proof.Machine

/-- Settles O6: the grant condition is the arbiter's first branch, and the effect is SLOW's three cases (R72). -/
theorem slowServiceCountsAndStops : Obligations.SlowServiceCountsAndStops := by
  refine ⟨decode_encode_ok .slow, fun rank s h => ?grant, acknowledge_slow, fun s h => ?stopped,
    fun s _ hm => ?maximum, fun s h hm => ?counts⟩
  case grant => exact pendSlow_of_granted_slow ((arbitrate_eq_iff rank s .slow).mp h)
  case stopped => exact congrArg Host.Outcome.next (slowTick_stopped params h)
  case maximum => exact congrArg Host.Outcome.next (slowTick_atMax params hm)
  case counts => exact congrArg Host.Outcome.next (slowTick_counts params h hm)

/-- Settles O9: START sets RF and keeps ET, and a SLOW at the maximum only clears RF (R75). -/
theorem startAtMaximumStopsAtNextSlow : Obligations.StartAtMaximumStopsAtNextSlow := by
  intro s hs
  have slow_stops {t : State} (ht : t.et = 0x9990#16) :
      ∃ u, exec .slow t = .next u ∧ u.rf = false ∧ u.et = 0x9990#16 :=
    ⟨t.setRf false, congrArg Host.Outcome.next (slowTick_atMax params ht), rfl, ht⟩
  exact ⟨⟨after .start s, exec_eq_next .start s, rfl, hs, slow_stops hs⟩, slow_stops hs⟩

/-- Settles O13: SLOW commutes with any change of the four registers, and the FAST after it reads the ET it left at the
position it did not move (R78). -/
theorem slowIgnoresTheDisplay : Obligations.SlowIgnoresTheDisplay := by
  intro s p sg sl f
  refine ⟨slowTick params s, exec_eq_next .slow s,
    congrArg Host.Outcome.next (slowTick_withDisplayAndIfg params s p sg sl f), slowTick_pos params s,
    slowTick_segOut params s, slowTick_selOut params s, slowTick_ifg params s, fun hp => ?fast⟩
  case fast =>
    have hdigit : (slowTick params s).pos ≤ 3#3 := by
      rw [slowTick_pos]
      exact BitVec.le_def.mpr hp
    refine ⟨fastTick params (slowTick params s), exec_eq_next .fast _, ?_⟩
    rw [fastTick_segOut_digit params hdigit, slowTick_pos]

end Sys2Proof.Proofs

/-! Proofs of the fast-tick family: the codec, the cases of FAST and what it is independent of
(spec/42_fast_tick_multiplexer.md), then the statements. -/

namespace Sys2Proof.Machine

/-! The codec (R90). -/

theorem segCode_decimal (c : Params) {d : Digit} (h : d.toNat < 10) : segCode c d = c.segTable[d.toNat] := dif_pos h

theorem segCode_invalid (c : Params) {d : Digit} (h : 9 < d.toNat) : segCode c d = c.codecInvalid :=
  dif_neg (by omega)

/-! FAST and the run flag (R98). -/

/-- A position shows a digit, shows the separator or is corrupted (R54). -/
theorem position_cases (p : Position) : p ≤ 3#3 ∨ p = 4#3 ∨ 4#3 < p := by bv_omega

/-- FAST commutes with a change of RF: at no position does it read or write it (R98). -/
theorem fastTick_withRf (c : Params) (s : State) (b : Bool) :
    fastTick c { s with rf := b } = { fastTick c s with rf := b } := by
  rcases position_cases s.pos with h | h | h
  · rw [fastTick_digit c h, fastTick_digit c (s := { s with rf := b }) h]; rfl
  · rw [fastTick_separator c h, fastTick_separator c (s := { s with rf := b }) h]; rfl
  · rw [fastTick_corrupted c h, fastTick_corrupted c (s := { s with rf := b }) h]; rfl

@[simp] theorem fastTick_et (c : Params) (s : State) : (fastTick c s).et = s.et := by
  obtain ⟨p, sg, sl, tr, h⟩ := fastTick_eq c s
  rw [h]

@[simp] theorem fastTick_rf (c : Params) (s : State) : (fastTick c s).rf = s.rf := by
  obtain ⟨p, sg, sl, tr, h⟩ := fastTick_eq c s
  rw [h]

/-! The other operations and POS (R98). -/

theorem slowTick_withPos (c : Params) (s : State) (p : Position) :
    slowTick c { s with pos := p } = { slowTick c s with pos := p } := by
  rw [slowTick_eq, slowTick_eq]

/-- Every operation but FAST commutes with a change of POS: it neither reads nor writes it. -/
theorem after_withPos {i : Instr} (hi : i ≠ .fast) (s : State) (p : Position) :
    after i { s with pos := p } = { after i s with pos := p } := by
  cases i with
  | fast => exact absurd rfl hi
  | slow => exact slowTick_withPos params s p
  | none | start | pause | resetAction | spur => rfl

/-- So what it leaves in POS is what it found there. -/
theorem after_pos {i : Instr} (hi : i ≠ .fast) (s : State) : (after i s).pos = s.pos := by
  have h : (after i { s with pos := s.pos }).pos = s.pos := by rw [after_withPos hi]
  exact h

/-! The grant of FAST. -/

/-- The arbiter picks FAST only when it is pending: the button branch picks a button operation (R110, R147). -/
theorem pendFast_of_granted_fast {rank : BtnRank} {s : State} (h : granted rank s = .fast) : s.pendFast = true := by
  unfold granted at h
  split at h
  next => cases h
  next =>
    split at h
    next => exact absurd h (btnSelect_is_button s.ifg).2.2
    next =>
      split at h
      next hp => exact hp
      next => cases h

end Sys2Proof.Machine

namespace Sys2Proof.Proofs

open Sys2Proof.Machine

/-- Settles O18: FAST commutes with a change of RF, and every other operation with a change of POS (R98). -/
theorem fastRunsWhateverTheRunFlag : Obligations.FastRunsWhateverTheRunFlag := by
  refine ⟨fun s b => ?fast, fun i s p hi => ?others⟩
  case fast =>
    exact ⟨fastTick params s, exec_eq_next .fast s, fastTick_et params s, fastTick_rf params s,
      congrArg Host.Outcome.next (fastTick_withRf params s b)⟩
  case others =>
    refine ⟨after i s, exec_eq_next i s, after_pos hi s, ?_⟩
    rw [exec_eq_next, after_withPos hi]

/-- Settles O14: the codec's two branches are the table and the invalid pattern (R90). -/
theorem segmentCodecFollowsItsTable : Obligations.SegmentCodecFollowsItsTable :=
  fun c _ => ⟨segCode_decimal c, segCode_invalid c⟩

/-- Settles O16: the grant condition is the arbiter's third branch, and the effect is FAST's three cases (R95). -/
theorem fastServiceRefreshesOnePosition : Obligations.FastServiceRefreshesOnePosition := by
  refine ⟨decode_encode_ok .fast, fun rank s h => ?grant, acknowledge_fast, fun s h => ?digit, fun s h => ?separator,
    fun s h => ?corrupted⟩
  case grant => exact pendFast_of_granted_fast ((arbitrate_eq_iff rank s .fast).mp h)
  case digit =>
    have hp : s.pos ≤ 3#3 := BitVec.le_def.mpr h
    rw [exec_eq_next, after, fastTick_digit params hp, refresh_eq]
    rfl
  case separator =>
    have hp : s.pos = 4#3 := BitVec.eq_of_toNat_eq h
    rw [exec_eq_next, after, fastTick_separator params hp, refresh_eq]
    rfl
  case corrupted =>
    have hp : 4#3 < s.pos := BitVec.lt_def.mpr h
    rw [exec_eq_next, after, fastTick_corrupted params hp]
    rfl

/-- Settles O17: both services are cases of O16, the first at a corrupted position and the second at position 0 (R97). -/
theorem fastRepairsACorruptedPosition : Obligations.FastRepairsACorruptedPosition := by
  obtain ⟨-, -, -, digit, -, corrupted⟩ := fastServiceRefreshesOnePosition
  intro s h
  have select_zero : (~~~(1#5 <<< (0#3).toNat) : SelPattern) = 0x1E#5 := by decide
  exact ⟨{ s with pos := 0#3 }, corrupted s h, rfl, rfl, rfl, rfl,
    _, digit { s with pos := 0#3 } (Nat.zero_le 3), rfl, select_zero, rfl⟩

end Sys2Proof.Proofs

/-! Proofs of the button family: the indicator a button action clears, the operation the arbiter picks, the cases of the
effective state (spec/43_button_run_control.md), then the statements. -/

namespace Sys2Proof.Machine

/-! The indicators (R46, R111 to R113). -/

/-- Clearing a line is one AND with the mask of the other three. -/
theorem clearLine_eq_setIfg_and (s : State) {i : Nat} {mask : Indicators} (h : ~~~(1#4 <<< i) = mask) :
    s.clearLine i = s.setIfg (s.ifg &&& mask) := by
  subst h; rfl

/-! The arbiter's four answers (R147). -/

/-- Each answer comes with the pending indicators that stand behind it. -/
theorem granted_cases (rank : BtnRank) (s : State) :
    (granted rank s = .slow ∧ s.pendSlow = true) ∨
      (granted rank s = btnSelect s.ifg ∧ s.ifg ≠ 0b0000#4) ∨
      (granted rank s = .fast ∧ s.pendFast = true) ∨
      (granted rank s = .none ∧ s.pendSlow = false ∧ s.pendFast = false ∧ s.ifg = 0b0000#4) := by
  unfold granted
  rw [pendBtn_eq]
  split
  next hslow => exact .inl ⟨rfl, (Bool.and_eq_true_iff.mp hslow).1⟩
  next hslow =>
    split
    next hbtn => exact .inr (.inl ⟨rfl, bne_iff_ne.mp (Bool.and_eq_true_iff.mp hbtn).1⟩)
    next hbtn =>
      split
      next hfast => exact .inr (.inr (.inl ⟨rfl, hfast⟩))
      next hfast =>
        have hifg : s.ifg = 0b0000#4 := by simpa [hfast] using hbtn
        exact .inr (.inr (.inr ⟨rfl, by simpa [hifg] using hslow, Bool.eq_false_iff.mpr hfast, hifg⟩))

/-- A non-zero port selects SPUR only with IFG[3] set alone (R110, R114). -/
theorem ifg_of_btnSelect_spur {f : Indicators} (hf : f ≠ 0b0000#4) (h : btnSelect f = .spur) : f = 0b1000#4 := by
  revert f; decide

theorem ifg_of_granted_spur {rank : BtnRank} {s : State} (h : granted rank s = .spur) : s.ifg = 0b1000#4 := by
  rcases granted_cases rank s with ⟨hg, -⟩ | ⟨hg, hifg⟩ | ⟨hg, -⟩ | ⟨hg, -⟩
  case inr.inl => exact ifg_of_btnSelect_spur hifg (hg.symm.trans h)
  all_goals cases h.symm.trans hg

/-! The effective state, case by case (R120), for every choice of the parameters. -/

theorem effective_running (c : Params) {s : State} (h : s.rf = true) : s.effective c = .running := if_pos h

theorem effective_idle (c : Params) {s : State} (h : s.rf = false) (h0 : s.et = 0x0000#16) : s.effective c = .idle := by
  simp [State.effective, h, h0]

theorem effective_stoppedOverflow (c : Params) {s : State} (h : s.rf = false) (h0 : s.et ≠ 0x0000#16)
    (hm : s.et = c.etMax) : s.effective c = .stoppedOverflow := by
  simp [State.effective, h, h0, (atMax_iff c s.et).mpr hm]

theorem effective_paused (c : Params) {s : State} (h : s.rf = false) (h0 : s.et ≠ 0x0000#16) (hm : s.et ≠ c.etMax) :
    s.effective c = .paused := by
  simp [State.effective, h, h0, mt (atMax_iff c s.et).mp hm]

end Sys2Proof.Machine

namespace Sys2Proof.Proofs

open Sys2Proof.Machine

/-- Settles O20: START clears line 0 and sets RF (R111). -/
theorem startSetsTheRunFlag : Obligations.StartSetsTheRunFlag := by
  refine ⟨decode_encode_ok .start, fun s => ?_⟩
  rw [exec_eq_next, after, clearLine_eq_setIfg_and s (mask := 0b1110#4) (by decide)]
  rfl

/-- Settles O21: PAUSE clears line 1 and RF (R112). -/
theorem pauseClearsTheRunFlag : Obligations.PauseClearsTheRunFlag := by
  refine ⟨decode_encode_ok .pause, fun s => ?_⟩
  rw [exec_eq_next, after, clearLine_eq_setIfg_and s (mask := 0b1101#4) (by decide)]
  rfl

/-- Settles O22: RESET clears line 2, ET and RF (R113). -/
theorem resetActionClearsTheTime : Obligations.ResetActionClearsTheTime := by
  refine ⟨decode_encode_ok .resetAction, fun s => ?_⟩
  rw [exec_eq_next, after, clearLine_eq_setIfg_and s (mask := 0b1011#4) (by decide)]
  rfl

/-- Settles O23: the arbiter picks SPUR only through the button branch, whose port is not zero (R114). -/
theorem spurClearsThePort : Obligations.SpurClearsThePort :=
  ⟨decode_encode_ok .spur, fun rank s h => ifg_of_granted_spur ((arbitrate_eq_iff rank s .spur).mp h),
    exec_eq_next .spur⟩

/-- Settles O28: in each of the four cases of (RF, ET) the effective state is the one the spec names, and the other
three equivalences fail on both sides; ET_MAX is not 0, so no case is taken from another (R120). -/
theorem effectiveStatesClassify : Obligations.EffectiveStatesClassify := by
  intro s
  cases hr : s.rf with
  | true => simp [effective_running params hr]
  | false =>
    by_cases h0 : s.et = 0x0000#16
    · simp [effective_idle params hr h0, h0]
    · by_cases hm : s.et = 0x9990#16
      · simp [effective_stoppedOverflow params hr h0 hm, hm]
      · simp [effective_paused params hr h0 hm, h0, hm]

end Sys2Proof.Proofs

/-! Proofs of the exceptions family: what the arbiter grants while a slow tick waits, what a cycle does with the pending
bits and ET, and that every cycle goes on (spec/60_exceptions.md), then the statements. -/

namespace Sys2Proof.Machine

/-! The arbiter while a slow tick is pending (R147, R148). -/

/-- The ranks are ordered: a button above SLOW is above FAST. -/
theorem btnAboveFast_of_btnAboveSlow {rank : BtnRank} (h : btnAboveSlow rank = true) : btnAboveFast rank = true := by
  cases rank with
  | high => rfl
  | mid | low => cases h

/-- A pending slow tick gives way to the button alone. -/
theorem granted_of_pendSlow (rank : BtnRank) {s : State} (h : s.pendSlow = true) :
    granted rank s = .slow ∨ granted rank s = btnSelect s.ifg := by
  unfold granted
  split
  next => exact .inl rfl
  next hslow =>
    have ⟨hbtn, habove⟩ : s.pendBtn = true ∧ btnAboveSlow rank = true := by simpa [h] using hslow
    exact .inr (by simp [hbtn, btnAboveFast_of_btnAboveSlow habove])

theorem granted_ne_fast_of_pendSlow (rank : BtnRank) {s : State} (h : s.pendSlow = true) :
    granted rank s ≠ .fast := by
  rcases granted_of_pendSlow rank h with hg | hg
  · simp [hg]
  · rw [hg]; exact (btnSelect_is_button s.ifg).2.2

/-! The service phase on the timer bits, and in a cycle that grants SLOW (R150). -/

theorem served_pendSlow (rank : BtnRank) (s : State) :
    (s.served rank).pendSlow = (s.pendSlow && (arbitrate rank s != 0b001#3)) := by
  obtain ⟨_, _, _, _, _, _, _, h⟩ := served_eq rank s
  rw [h]

theorem served_pendFast (rank : BtnRank) (s : State) :
    (s.served rank).pendFast = (s.pendFast && (arbitrate rank s != 0b010#3)) := by
  obtain ⟨_, _, _, _, _, _, _, h⟩ := served_eq rank s
  rw [h]

theorem served_of_granted_slow {rank : BtnRank} {s : State} (h : granted rank s = .slow) :
    s.served rank = slowTick params (s.setPendSlow false) := by
  rw [State.served, h]; rfl

/-- ET after SLOW: one more exactly if the count runs below the maximum (R72). -/
theorem slowTick_et (c : Params) (s : State) :
    (slowTick c s).et = if s.rf = true ∧ s.et ≠ c.etMax then bcdInc c.incNibble s.et else s.et := by
  split
  next h =>
    obtain ⟨hr, hm⟩ := h
    rw [slowTick_counts c hr hm]
  next h =>
    rcases not_and_or.mp h with hr | hm
    · rw [slowTick_stopped c (Bool.eq_false_iff.mpr hr)]
    · rw [slowTick_atMax c (not_not.mp hm), State.setRf_et]

/-! The end of a cycle: capture does not reach ET, and it never clears a timer bit (R152). -/

@[simp] theorem finishCycle_et (p : Pins) (s : State) : (finishCycle p s).et = s.et := by
  obtain ⟨_, _, _, _, h⟩ := finishCycle_eq p s
  rw [h]

theorem finishCycle_keeps_pendSlow (p : Pins) {s : State} (hs : s.pendSlow = true) :
    (finishCycle p s).pendSlow = true := by
  obtain ⟨_, _, _, _, h⟩ := finishCycle_eq p s
  rw [h, tickSlow_eq, hs, Bool.true_or]

theorem finishCycle_keeps_pendFast (p : Pins) {s : State} (hs : s.pendFast = true) :
    (finishCycle p s).pendFast = true := by
  obtain ⟨_, _, _, _, h⟩ := finishCycle_eq p s
  rw [h, tickFast_eq, hs, Bool.true_or]

/-! Totality (R63, R154). -/

/-- A code of the table runs its operation. -/
theorem execute_encode (i : Instr) (s : State) : execute (encode i) s = .next (after i s) := by
  rw [execute, decode_encode_ok]
  exact exec_eq_next i s

/-- Both kinds of cycle, with and without system reset, go on to a next state. -/
theorem exists_cycle_eq_next (rank : BtnRank) (s : State) : ∃ t, cycle rank s = .next t := by
  cases h : s.pins.rst with
  | true => exact ⟨_, cycle_of_reset rank h⟩
  | false => exact ⟨_, cycle_of_run rank h⟩

end Sys2Proof.Machine

namespace Sys2Proof.Proofs

open Sys2Proof.Machine

/-- Settles O32: while SLOW waits the arbiter cannot pick FAST, capture clears neither bit, and the ET that SLOW leaves
reaches the FAST after it (R148). -/
theorem slowIsServedBeforeFast : Obligations.SlowIsServedBeforeFast := by
  intro rank s hslow hfast hrst
  have not_fast : arbitrate rank s ≠ 0b010#3 :=
    mt (arbitrate_eq_iff rank s .fast).mp (granted_ne_fast_of_pendSlow rank hslow)
  refine ⟨not_fast, finishCycle s.pins (s.served rank), cycle_of_run rank hrst, ?fastWaits, fun hg => ?slowWaits,
    fun hg => ⟨?counted, fun hp => ?shown⟩⟩
  case fastWaits => exact finishCycle_keeps_pendFast _ (by simp [served_pendFast, hfast, not_fast])
  case slowWaits => exact finishCycle_keeps_pendSlow _ (by simp [served_pendSlow, hslow, hg])
  case counted =>
    rw [finishCycle_et, served_of_granted_slow ((arbitrate_eq_iff rank s .slow).mp hg)]
    exact slowTick_et params (s.setPendSlow false)
  case shown => exact ⟨_, execute_encode .fast _, fastTick_segOut_digit params (BitVec.le_def.mpr hp)⟩

/-- Settles O36: a cycle goes on whether or not RST is given, and an outcome holds one state (R154). -/
theorem everyCycleHasOneSuccessor : Obligations.EveryCycleHasOneSuccessor := by
  refine ⟨fun s p => ?_, exists_cycle_eq_next params.btnRank, exists_cycle_eq_next⟩
  obtain ⟨t, ht⟩ := exists_cycle_eq_next params.btnRank (s.withPins p)
  exact ⟨t, ht, fun u hu => Host.Outcome.next.inj (hu.symm.trans ht)⟩

end Sys2Proof.Proofs

/-! Proofs of the remaining statements. First the rules they share: what a cycle without system reset writes, field by
field, and the induction over steps. -/

namespace Sys2Proof.Machine

/-! The operations: what none of them writes (R38), and what none of them reads. -/

theorem after_frame (i : Instr) (s : State) :
    after i s =
      { s with
        et := (after i s).et, rf := (after i s).rf, pos := (after i s).pos, segOut := (after i s).segOut
        selOut := (after i s).selOut, trace := (after i s).trace, ifg := (after i s).ifg } := by
  obtain ⟨_, _, _, _, _, _, _, h⟩ := after_eq i s
  rw [h]

/-- No operation reads or writes a timer's pending bit: service entry alone clears it (R150). -/
theorem after_withPending (i : Instr) (s : State) (a b : Bool) :
    after i { s with pendSlow := a, pendFast := b } = { after i s with pendSlow := a, pendFast := b } := by
  cases i with
  | slow => rw [after, after, slowTick_eq, slowTick_eq]
  | fast =>
    rw [after, after]
    rcases position_cases s.pos with h | h | h
    · rw [fastTick_digit _ h, fastTick_digit _ (s := { s with pendSlow := a, pendFast := b }) h]; rfl
    · rw [fastTick_separator _ h, fastTick_separator _ (s := { s with pendSlow := a, pendFast := b }) h]; rfl
    · rw [fastTick_corrupted _ h, fastTick_corrupted _ (s := { s with pendSlow := a, pendFast := b }) h]; rfl
  | none | start | pause | resetAction | spur => rfl

/-! Phase 1 of a cycle: the granted operation on the state itself, and the timer bits of service entry (R150, R152). -/

section Served

variable (rank : BtnRank) (s : State)

theorem served_eq_after :
    s.served rank =
      { after (granted rank s) s with
        pendSlow := s.pendSlow && (arbitrate rank s != 0b001#3)
        pendFast := s.pendFast && (arbitrate rank s != 0b010#3) } := by
  rw [State.served, ← arbitrate_eq_encode, acknowledge_eq, after_withPending]

@[simp] theorem served_et : (s.served rank).et = (after (granted rank s) s).et := by rw [served_eq_after]
@[simp] theorem served_rf : (s.served rank).rf = (after (granted rank s) s).rf := by rw [served_eq_after]
@[simp] theorem served_pos : (s.served rank).pos = (after (granted rank s) s).pos := by rw [served_eq_after]
@[simp] theorem served_segOut : (s.served rank).segOut = (after (granted rank s) s).segOut := by rw [served_eq_after]
@[simp] theorem served_selOut : (s.served rank).selOut = (after (granted rank s) s).selOut := by rw [served_eq_after]
@[simp] theorem served_trace : (s.served rank).trace = (after (granted rank s) s).trace := by rw [served_eq_after]
@[simp] theorem served_ifg : (s.served rank).ifg = (after (granted rank s) s).ifg := by rw [served_eq_after]
@[simp] theorem served_btnPrev : (s.served rank).btnPrev = s.btnPrev := by rw [served_eq_after, after_frame]
@[simp] theorem served_fastCnt : (s.served rank).fastCnt = s.fastCnt := by rw [served_eq_after, after_frame]
@[simp] theorem served_slowPre : (s.served rank).slowPre = s.slowPre := by rw [served_eq_after, after_frame]
@[simp] theorem served_slowCnt : (s.served rank).slowCnt = s.slowCnt := by rw [served_eq_after, after_frame]
@[simp] theorem served_cycle : (s.served rank).cycle = s.cycle := by rw [served_eq_after, after_frame]

end Served

/-! Phase 2 and the end of a cycle (R137, R138, R152). -/

section Finish

variable (p : Pins) (s : State)

/-- Beside the tick generator's registers, the samples and the cycle number it writes IFG, DB_CNT and the inputs. -/
theorem finishCycle_frame :
    finishCycle p s =
      { s with
        pendSlow := (tickSlow params s).pendSlow, pendFast := (tickFast params s).pendFast
        fastCnt := (tickFast params s).fastCnt, slowPre := (tickSlow params s).slowPre
        slowCnt := (tickSlow params s).slowCnt, btnPrev := p.btnIn, cycle := s.cycle + 1
        ifg := (finishCycle p s).ifg, dbCnt := (finishCycle p s).dbCnt
        inputs := (finishCycle p s).inputs, draws := (finishCycle p s).draws } := by
  obtain ⟨_, _, _, _, h⟩ := finishCycle_eq p s
  rw [h]

@[simp] theorem finishCycle_rf : (finishCycle p s).rf = s.rf := by rw [finishCycle_frame]
@[simp] theorem finishCycle_pos : (finishCycle p s).pos = s.pos := by rw [finishCycle_frame]
@[simp] theorem finishCycle_segOut : (finishCycle p s).segOut = s.segOut := by rw [finishCycle_frame]
@[simp] theorem finishCycle_selOut : (finishCycle p s).selOut = s.selOut := by rw [finishCycle_frame]
@[simp] theorem finishCycle_trace : (finishCycle p s).trace = s.trace := by rw [finishCycle_frame]
@[simp] theorem finishCycle_cycle : (finishCycle p s).cycle = s.cycle + 1 := by rw [finishCycle_frame]
@[simp] theorem finishCycle_btnPrev : (finishCycle p s).btnPrev = p.btnIn := by rw [finishCycle_frame]

theorem finishCycle_fastCnt :
    (finishCycle p s).fastCnt =
      if s.fastCnt = lastCount params.fastDiv then 0#16 else countUp .fastCnt s.fastCnt := by
  rw [finishCycle_frame, tickFast_eq]

theorem finishCycle_slowPre :
    (finishCycle p s).slowPre =
      if s.slowPre = lastCount params.slowPrescale then 0#16 else countUp .slowPre s.slowPre := by
  rw [finishCycle_frame, tickSlow_eq]

theorem finishCycle_slowCnt :
    (finishCycle p s).slowCnt =
      if s.slowPre = lastCount params.slowPrescale then
        if s.slowCnt = lastCount params.slowDiv then 0#16 else countUp .slowCnt s.slowCnt
      else s.slowCnt := by
  rw [finishCycle_frame, tickSlow_eq]

theorem finishCycle_pendFast :
    (finishCycle p s).pendFast = (s.pendFast || s.fastCnt == lastCount params.fastDiv) := by
  rw [finishCycle_frame, tickFast_eq]

theorem finishCycle_pendSlow :
    (finishCycle p s).pendSlow =
      (s.pendSlow || (s.slowPre == lastCount params.slowPrescale && s.slowCnt == lastCount params.slowDiv)) := by
  rw [finishCycle_frame, tickSlow_eq]

/-- The indicators are the capture phase's. -/
theorem finishCycle_ifg : (finishCycle p s).ifg = (capture params p s).ifg := by
  obtain ⟨_, _, h⟩ := dropInput_eq (capture params p s)
  rw [finishCycle, State.nextCycle_ifg, h]

end Finish

/-! Steps. -/

theorem step_of_run {s : State} (h : s.pins.rst = false) :
    step s = .next (finishCycle s.pins (s.served params.btnRank)) := cycle_of_run _ h

/-- What holds after system reset and is kept by every cycle without it is kept by every step. -/
theorem step_keeps {P : State → Prop} (reset : ∀ s : State, P s.systemReset)
    (run : ∀ s : State, P s → P (finishCycle s.pins (s.served params.btnRank))) {s t : State} (hs : P s)
    (h : step s = .next t) : P t := by
  rcases step_cases h with ⟨-, rfl⟩ | ⟨-, rfl⟩
  · exact reset s
  · exact run s hs

end Sys2Proof.Machine

/-! The tick generator's counters (spec/60_exceptions.md R137 to R139): they count modulo their divisors. -/

namespace Sys2Proof.Machine

theorem lastCount_toNat {div : Nat} (h : div ≤ 65536) : (lastCount div).toNat = div - 1 := by
  rw [lastCount, BitVec.toNat_ofNat, Nat.mod_eq_of_lt (by omega)]

theorem eq_lastCount_iff {div : Nat} (h : div ≤ 65536) (v : Counter) : v = lastCount div ↔ v.toNat = div - 1 := by
  rw [← BitVec.toNat_inj, lastCount_toNat h]

/-- Below its divisor a counter goes up by one modulo the divisor. -/
theorem count_toNat (k : TickCounter) {div : Nat} (h : div ≤ 65536) {v : Counter} (hv : v.toNat < div) :
    (if v = lastCount div then 0#16 else countUp k v).toNat = (v.toNat + 1) % div := by
  split
  next hlast =>
    have hdiv : v.toNat + 1 = div := by have := (eq_lastCount_iff h v).mp hlast; omega
    rw [hdiv, Nat.mod_self]
    rfl
  next hlast =>
    have hlt : v.toNat + 1 < div := by have := mt (eq_lastCount_iff h v).mpr hlast; omega
    rw [countUp_toNat k (by omega), Nat.mod_eq_of_lt hlt]

/-! One cycle without system reset, for counters below their divisors. -/

section Run

variable {s : State} (p : Pins) (rank : BtnRank)

theorem run_fastCnt_toNat (h : s.fastCnt.toNat < 2000) :
    (finishCycle p (s.served rank)).fastCnt.toNat = (s.fastCnt.toNat + 1) % 2000 := by
  rw [finishCycle_fastCnt, served_fastCnt]
  exact count_toNat .fastCnt (by decide) h

theorem run_slowPre_toNat (h : s.slowPre.toNat < 2) :
    (finishCycle p (s.served rank)).slowPre.toNat = (s.slowPre.toNat + 1) % 2 := by
  rw [finishCycle_slowPre, served_slowPre]
  exact count_toNat .slowPre (by decide) h

/-- SLOW_CNT counts where the prescaler wraps. -/
theorem run_slowCnt_toNat (h : s.slowCnt.toNat < 50000) :
    (finishCycle p (s.served rank)).slowCnt.toNat =
      if s.slowPre.toNat = 1 then (s.slowCnt.toNat + 1) % 50000 else s.slowCnt.toNat := by
  have wraps : s.slowPre = lastCount params.slowPrescale ↔ s.slowPre.toNat = 1 := eq_lastCount_iff (by decide) _
  rw [finishCycle_slowCnt, served_slowPre, served_slowCnt]
  simp only [wraps]
  split
  · exact count_toNat .slowCnt (by decide) h
  · rfl

end Run

end Sys2Proof.Machine

namespace Sys2Proof.Proofs

open Sys2Proof.Machine

/-- Settles O50: all counters and the cycle number are 0 (R171). -/
theorem resetCountersAreInPhase : Obligations.ResetCountersAreInPhase := ⟨rfl, rfl, rfl⟩

/-- Settles O49: each counter counts modulo its divisor, SLOW_CNT in the odd cycles alone, and so does the cycle number
(R139). -/
theorem stepKeepsCountersInPhase : Obligations.StepKeepsCountersInPhase := by
  refine fun s t hs h => step_keeps (P := State.InPhase) (fun _ => ?reset) (fun s hs => ?run) hs h
  case reset =>
    obtain ⟨hfast, hpre, hslow⟩ := resetCountersAreInPhase
    exact ⟨hfast, hpre, hslow⟩
  case run =>
    obtain ⟨hfast, hpre, hslow⟩ := hs
    refine ⟨?_, ?_, ?_⟩ <;> rw [finishCycle_cycle, served_cycle]
    · rw [run_fastCnt_toNat _ _ (by omega)]; omega
    · rw [run_slowPre_toNat _ _ (by omega)]; omega
    · rw [run_slowCnt_toNat _ _ (by omega)]; split <;> omega

end Sys2Proof.Proofs

/-! The decimal increment (spec/41_slow_tick_bcd_increment.md R70, R71): digit by digit, then as addition. -/

namespace Sys2Proof.Machine

/-- A digit of the carry loop's range: the carry reaches it if every digit before it passes the carry on. -/
theorem nib_bcdCarry (n : Nat) {i j : Nat} (hn : n + i ≤ 4) (hij : i ≤ j) (hj : j < n + i) (r : EtWord) :
    nib (bcdCarry n i r) j =
      if ∀ m < j, i ≤ m → 9 ≤ (nib r m).toNat then
        if 9 ≤ (nib r j).toNat then 0#4 else nib r j + 1#4
      else nib r j := by
  induction n generalizing i r with
  | zero => omega
  | succ n ih =>
    have hi : i < 4 := by omega
    by_cases h : 9#4 ≤ nib r i
    · have h9 : 9 ≤ (nib r i).toNat := BitVec.le_def.mp h
      rw [bcdCarry_roll h]
      rcases Nat.eq_or_lt_of_le hij with rfl | hlt
      · rw [nib_bcdCarry_below n (by omega) (Nat.lt_succ_self i), nib_setNib_same r hi,
          if_pos fun m hm him => absurd him (by omega), if_pos h9]
      · have kept (m : Nat) (hm : m < 4) (him : i < m) : nib (setNib r i 0#4) m = nib r m :=
          nib_setNib_other r hi hm (by omega) 0#4
        have same_carry : (∀ m < j, i + 1 ≤ m → 9 ≤ (nib (setNib r i 0#4) m).toNat) ↔
            ∀ m < j, i ≤ m → 9 ≤ (nib r m).toNat := by
          refine forall₂_congr fun m hm => ⟨fun hc him => ?_, fun hc him => ?_⟩
          · rcases Nat.eq_or_lt_of_le him with rfl | hlt'
            · exact h9
            · exact kept m (by omega) hlt' ▸ hc hlt'
          · rw [kept m (by omega) him]; exact hc (Nat.le_of_succ_le him)
        rw [ih (by omega) hlt (by omega), kept j (by omega) hlt]
        simp only [same_carry]
    · have h9 : ¬ 9 ≤ (nib r i).toNat := fun hle => h (BitVec.le_def.mpr hle)
      rw [bcdCarry_stop h]
      rcases Nat.eq_or_lt_of_le hij with rfl | hlt
      · rw [nib_setNib_same r hi, if_pos fun m hm him => absurd him (by omega), if_neg h9]
      · rw [nib_setNib_other r hi (by omega) (by omega), if_neg fun hc => h9 (hc i hlt (Nat.le_refl i))]

theorem nib_bcdInc {k i : Nat} (hk : k ≤ 3) (hi : i < 4) (v : EtWord) :
    nib (bcdInc k v) i =
      if k ≤ i ∧ ∀ j < i, k ≤ j → 9 ≤ (nib v j).toNat then
        if 9 ≤ (nib v i).toNat then 0#4 else nib v i + 1#4
      else nib v i := by
  rw [bcdInc]
  by_cases hki : k ≤ i
  · rw [nib_bcdCarry (4 - k) (by omega) hki (by omega)]
    simp only [hki, true_and]
  · rw [nib_bcdCarry_below (4 - k) (by omega) (by omega), if_neg fun h => hki h.1]

/-- The digits below INC_NIBBLE stay. -/
theorem nib_bcdInc_below {k i : Nat} (hk : k ≤ 3) (hi : i < k) (v : EtWord) : nib (bcdInc k v) i = nib v i :=
  nib_bcdCarry_below (4 - k) (by omega) hi v

/-- Digit INC_NIBBLE itself always takes the carry. -/
theorem nib_bcdInc_self {k : Nat} (hk : k ≤ 3) (v : EtWord) :
    nib (bcdInc k v) k = if 9 ≤ (nib v k).toNat then 0#4 else nib v k + 1#4 := by
  rw [nib_bcdInc hk (by omega), if_pos ⟨Nat.le_refl k, fun j hj hkj => absurd hkj (by omega)⟩]

/-- A digit of less than 9 plus one does not wrap. -/
theorem digit_add_one_toNat {d : Digit} (h : ¬ 9 ≤ d.toNat) : (d + 1#4).toNat = d.toNat + 1 := by bv_omega

/-- A decimal digit stays decimal. -/
theorem nib_bcdInc_le_nine {k i : Nat} (hk : k ≤ 3) (hi : i < 4) {v : EtWord} (h : (nib v i).toNat ≤ 9) :
    (nib (bcdInc k v) i).toNat ≤ 9 := by
  rw [nib_bcdInc hk hi]
  split
  · split
    · exact Nat.zero_le 9
    next h9 => rw [digit_add_one_toNat h9]; omega
  · exact h

theorem bcdInc_keeps_bcdDigits {k : Nat} (hk : k ≤ 3) {v : EtWord} (h : BcdDigits v) : BcdDigits (bcdInc k v) :=
  fun i hi => nib_bcdInc_le_nine hk hi (h i hi)

/-- The increment is never its argument: digit INC_NIBBLE changes. -/
theorem bcdInc_ne {k : Nat} (hk : k ≤ 3) (v : EtWord) : bcdInc k v ≠ v := by
  intro h
  have hdigit := nib_bcdInc_self hk v
  rw [h] at hdigit
  split at hdigit <;> bv_omega

/-! The number the digits spell (R71). -/

theorem decimalFrom_four (v : EtWord) : decimalFrom 4 v = 0 := rfl

theorem decimalFrom_succ {k : Nat} (hk : k < 4) (v : EtWord) :
    decimalFrom k v = (nib v k).toNat + 10 * decimalFrom (k + 1) v := by
  obtain ⟨n, hn⟩ : ∃ n, 4 - k = n + 1 := ⟨3 - k, by omega⟩
  have hn' : 4 - (k + 1) = n := by omega
  have shift (j : Nat) : (nib v (k + (j + 1))).toNat * 10 ^ (j + 1) =
      10 * ((nib v (k + 1 + j)).toNat * 10 ^ j) := by
    rw [Nat.add_comm j 1, ← Nat.add_assoc, Nat.pow_add]; ring
  rw [decimalFrom, decimalFrom, hn, hn', List.range_succ_eq_map, List.map_cons, List.sum_cons, List.map_map,
    ← List.sum_map_mul_left]
  simp [Function.comp_def, shift]

/-- It depends on the digits from `k` up alone. -/
theorem decimalFrom_congr {k : Nat} {v w : EtWord} (h : ∀ i < 4, k ≤ i → nib v i = nib w i) :
    decimalFrom k v = decimalFrom k w := by
  unfold decimalFrom
  congr 1
  refine List.map_congr_left fun j hj => ?_
  have hj := List.mem_range.mp hj
  rw [h (k + j) (by omega) (Nat.le_add_right k j)]

theorem decimalFrom_lt (n : Nat) {k : Nat} (hk : n + k = 4) {v : EtWord}
    (h : ∀ i < 4, k ≤ i → (nib v i).toNat ≤ 9) : decimalFrom k v < 10 ^ n := by
  induction n generalizing k with
  | zero => rw [show k = 4 by omega, decimalFrom_four]; exact Nat.one_pos
  | succ n ih =>
    have hd := h k (by omega) (Nat.le_refl k)
    have hrest := ih (k := k + 1) (by omega) fun i hi hki => h i hi (by omega)
    rw [decimalFrom_succ (by omega), Nat.pow_succ]
    omega

/-- The carry loop over all digits from `i` up adds one modulo the power of ten they hold. -/
theorem decimalFrom_bcdCarry (n : Nat) {i : Nat} (hn : n + i = 4) {r : EtWord}
    (h : ∀ j < 4, i ≤ j → (nib r j).toNat ≤ 9) :
    decimalFrom i (bcdCarry n i r) = (decimalFrom i r + 1) % 10 ^ n := by
  induction n generalizing i r with
  | zero => rw [show i = 4 by omega, decimalFrom_four, decimalFrom_four]; rfl
  | succ n ih =>
    have hi : i < 4 := by omega
    have kept (d : Digit) (j : Nat) (hj : j < 4) (hij : i + 1 ≤ j) : nib (setNib r i d) j = nib r j :=
      nib_setNib_other r hi hj (by omega) d
    rw [decimalFrom_succ hi, decimalFrom_succ hi r]
    by_cases h9 : 9#4 ≤ nib r i
    · have hd : (nib r i).toNat = 9 := Nat.le_antisymm (h i hi (Nat.le_refl i)) (BitVec.le_def.mp h9)
      have hdecimal : ∀ j < 4, i + 1 ≤ j → (nib (setNib r i 0#4) j).toNat ≤ 9 := by
        intro j hj hij
        rw [kept 0#4 j hj hij]
        exact h j hj (Nat.le_of_succ_le hij)
      rw [bcdCarry_roll h9, nib_bcdCarry_below n (by omega) (Nat.lt_succ_self i), nib_setNib_same r hi,
        ih (by omega) hdecimal, decimalFrom_congr (kept 0#4), hd, Nat.pow_succ, Nat.mul_comm (10 ^ n)]
      rw [show 9 + 10 * decimalFrom (i + 1) r + 1 = 10 * (decimalFrom (i + 1) r + 1) by ring, Nat.mul_mod_mul_left]
      exact Nat.zero_add _
    · have hd : ¬ 9 ≤ (nib r i).toNat := fun hle => h9 (BitVec.le_def.mpr hle)
      have hrest := decimalFrom_lt n (k := i + 1) (by omega) fun j hj hij => h j hj (Nat.le_of_succ_le hij)
      rw [bcdCarry_stop h9, nib_setNib_same r hi, decimalFrom_congr (kept _), digit_add_one_toNat hd, Nat.mod_eq_of_lt]
      · omega
      · rw [Nat.pow_succ]; omega

theorem decimalFrom_bcdInc {k : Nat} (hk : k ≤ 3) {v : EtWord} (h : ∀ i < 4, k ≤ i → (nib v i).toNat ≤ 9) :
    decimalFrom k (bcdInc k v) = (decimalFrom k v + 1) % 10 ^ (4 - k) :=
  decimalFrom_bcdCarry (4 - k) (by omega) h

end Sys2Proof.Machine

namespace Sys2Proof.Proofs

open Sys2Proof.Machine

/-- Settles O7, by induction over the carry loop's digits (R70). -/
theorem bcdIncrementByDigits : Obligations.BcdIncrementByDigits := fun _ v _ hk hi => nib_bcdInc hk hi v

/-- Settles O8: the carry loop rolls 9s over as an addition does (R71). -/
theorem bcdIncrementIsDecimalAddition : Obligations.BcdIncrementIsDecimalAddition :=
  ⟨fun _ v hk h => ⟨decimalFrom_bcdInc hk h, fun i hi hki => nib_bcdInc_le_nine hk hi (h i hi hki),
    fun _ hi => nib_bcdInc_below hk hi v⟩, by decide, by decide⟩

end Sys2Proof.Proofs

/-! Sequences of operations (spec/30_encoding.md R60, R62): a run never stops, and a binary form replays it. -/

namespace Sys2Proof.Machine

@[simp] theorem andThen_next (t : State) (f : State → Result) : andThen (.next t) f = f t := rfl

theorem runOps_eq_next (ops : List Instr) (s : State) :
    runOps ops s = .next (ops.foldl (fun t i => after i t) s) := by
  induction ops generalizing s with
  | nil => rfl
  | cons i rest ih => rw [runOps, exec_eq_next, andThen_next, ih, List.foldl_cons]

/-- A repeated operation is its effect iterated. -/
theorem runOps_replicate (n : Nat) (i : Instr) (s : State) :
    runOps (List.replicate n i) s = .next ((after i)^[n] s) := by
  induction n generalizing s with
  | zero => rfl
  | succ n ih =>
    rw [List.replicate_succ, runOps, exec_eq_next, andThen_next, ih, Function.iterate_succ_apply]

/-- Codes of operations, replayed, are those operations run, whatever codes follow. -/
theorem runCodes_encode_append (ops : List Instr) (rest : List Grant) (s : State) :
    runCodes (ops.map encode ++ rest) s = andThen (runOps ops s) (runCodes rest) := by
  induction ops generalizing s with
  | nil => rfl
  | cons i ops ih =>
    rw [List.map_cons, List.cons_append, runCodes, execute_encode, andThen_next, ih, runOps, exec_eq_next,
      andThen_next]

theorem execute_reserved (s : State) : execute 0b011#3 s = .refused .reservedGrant := rfl

end Sys2Proof.Machine

namespace Sys2Proof.Proofs

open Sys2Proof.Machine

/-- Settles O3: both parts are the replay of the operations' codes, followed by no code and by the reserved one
(R62, R63). -/
theorem binaryFormReplaysTheOperations : Obligations.BinaryFormReplaysTheOperations := by
  refine ⟨fun ls s => ?replay, fun ops rest s => ?reserved⟩
  case replay =>
    have h := runCodes_encode_append (ls.flatMap Line.ops) [] s
    rw [List.append_nil, runOps_eq_next, andThen_next] at h
    rw [runOps_eq_next]
    exact h
  case reserved =>
    rw [runCodes_encode_append, runOps_eq_next, andThen_next, runCodes, execute_reserved]
    rfl

end Sys2Proof.Proofs

/-! Repeated slow ticks (spec/41_slow_tick_bcd_increment.md R76, R77; spec/70_reset_and_hazards.md R185). -/

namespace Sys2Proof.Machine

/-- With a digit 0 that is not 0 the maximum is missed, so SLOW counts on (R76). -/
theorem slowTick_of_digit0_ne {s : State} (h : s.rf = true) (h0 : nib s.et 0 ≠ 0#4) :
    slowTick params s = { s with et := bcdInc 1 s.et } := by
  have ne_max {v : EtWord} (hv : nib v 0 ≠ 0#4) : v ≠ 0x9990#16 := fun e => hv (e ▸ by decide)
  have hnext : nib (bcdInc 1 s.et) 0 ≠ 0#4 := by rwa [nib_bcdInc_below (by decide) (by decide)]
  rw [slowTick_counts params h (ne_max h0), params_incNibble, params_etMax, bne_iff_ne.mpr (ne_max hnext), ← h]

theorem nib_zero_iterate_bcdInc (n : Nat) (v : EtWord) : nib ((bcdInc 1)^[n] v) 0 = nib v 0 := by
  induction n with
  | zero => rfl
  | succ n ih => rw [Function.iterate_succ_apply', nib_bcdInc_below (by decide) (by decide), ih]

theorem decimalFrom_two (v : EtWord) : decimalFrom 2 v = (nib v 2).toNat + 10 * (nib v 3).toNat := by
  rw [decimalFrom_succ (by decide), decimalFrom_succ (by decide), decimalFrom_four, Nat.mul_zero, Nat.add_zero]

/-- Decimal digits above digit 0 are those of the number they spell. -/
theorem digits_of_decimalFrom_one {v : EtWord} (h : BcdDigits v) :
    (nib v 1).toNat = decimalFrom 1 v % 10 ∧ (nib v 2).toNat = decimalFrom 1 v / 10 % 10 ∧
      (nib v 3).toNat = decimalFrom 1 v / 100 := by
  have h1 := h 1 (by decide)
  have h2 := h 2 (by decide)
  have h3 := h 3 (by decide)
  rw [decimalFrom_succ (by decide), decimalFrom_two]
  omega

/-- Among the decimal values with digit 0 = 0 the maximum is the one whose other digits spell 999. -/
theorem eq_max_iff {v : EtWord} (h : BcdDigits v) (h0 : nib v 0 = 0#4) :
    v = 0x9990#16 ↔ decimalFrom 1 v = 999 := by
  refine ⟨fun e => e ▸ by decide, fun h999 => et_eq_of_nib_eq fun i hi => ?_⟩
  obtain ⟨h1, h2, h3⟩ := digits_of_decimalFrom_one h
  rw [h999] at h1 h2 h3
  interval_cases i
  · exact h0
  · exact BitVec.eq_of_toNat_eq h1
  · exact BitVec.eq_of_toNat_eq h2
  · exact BitVec.eq_of_toNat_eq h3

/-- A count that began at 0 has seen `n` slow ticks: it shows `n` tenths until it stops at 999. -/
structure State.Counted (n : Nat) (s : State) : Prop where
  digits  : BcdDigits s.et
  digit0  : nib s.et 0 = 0#4
  tenths  : decimalFrom 1 s.et = min n 999
  running : s.rf = decide (n < 999)

/-- One more slow tick is one more count. -/
theorem slowTick_counted {n : Nat} {s : State} (h : s.Counted n) : (slowTick params s).Counted (n + 1) := by
  obtain ⟨hdigits, h0, htenths, hrf⟩ := h
  by_cases hn : n < 999
  · have below : s.et ≠ 0x9990#16 := fun e => by have := (eq_max_iff hdigits h0).mp e; omega
    have hdigits' : BcdDigits (bcdInc 1 s.et) := bcdInc_keeps_bcdDigits (by decide) hdigits
    have h0' : nib (bcdInc 1 s.et) 0 = 0#4 := by rwa [nib_bcdInc_below (by decide) (by decide)]
    have htenths' : decimalFrom 1 (bcdInc 1 s.et) = n + 1 := by
      rw [decimalFrom_bcdInc (by decide) fun i hi _ => hdigits i hi, htenths]
      omega
    rw [slowTick_counts params (hrf.trans (decide_eq_true hn)) below]
    refine ⟨hdigits', h0', htenths'.trans (by omega), ?_⟩
    change (bcdInc 1 s.et != 0x9990#16) = _
    rw [Bool.eq_iff_iff, bne_iff_ne, decide_eq_true_iff, Ne, eq_max_iff hdigits' h0', htenths']
    omega
  · rw [slowTick_stopped params (hrf.trans (decide_eq_false hn))]
    exact ⟨hdigits, h0, by omega, by rw [hrf, decide_eq_false hn, decide_eq_false (by omega)]⟩

theorem iterate_slow_counted (k : Nat) {n : Nat} {s : State} (h : s.Counted n) :
    ((after .slow)^[k] s).Counted (n + k) := by
  induction k with
  | zero => exact h
  | succ k ih => rw [Function.iterate_succ_apply']; exact slowTick_counted ih

end Sys2Proof.Machine

namespace Sys2Proof.Proofs

open Sys2Proof.Machine

/-- Settles O10, by induction on the number of services: digit 0 is never written, so each of them counts on (R76). -/
theorem skippedMaximumNeverStops : Obligations.SkippedMaximumNeverStops := by
  intro n s hrf h0
  refine ⟨?run, nib_zero_iterate_bcdInc n s.et⟩
  case run =>
    rw [runOps_replicate]
    congr 1
    induction n with
    | zero => rfl
    | succ n ih =>
      have hdigit : nib ((bcdInc 1)^[n] s.et) 0 ≠ 0#4 := by rwa [nib_zero_iterate_bcdInc]
      rw [Function.iterate_succ_apply', Function.iterate_succ_apply', ih]
      exact slowTick_of_digit0_ne hrf hdigit

/-- Settles O12: ET = 0 is a count of 0, and each service is one more (R185). -/
theorem countingFromZeroStopsAtMaximum : Obligations.CountingFromZeroStopsAtMaximum := by
  intro s k hrf h0
  have start : s.Counted 0 := by
    refine ⟨?_, ?_, ?_, hrf⟩ <;> rw [h0]
    · unfold BcdDigits; decide
    · decide
    · decide
  obtain ⟨hdigits, hdigit0, htenths, hrun⟩ := iterate_slow_counted k start
  rw [Nat.zero_add] at htenths hrun
  exact ⟨_, runOps_replicate k .slow s, hdigits, hdigit0, htenths, hrun⟩

/-- Settles O11: the tenths go up by the number of services and stay below 999, and the digits are theirs (R77). -/
theorem tenSlowTicksAdvanceTheSeconds : Obligations.TenSlowTicksAdvanceTheSeconds := by
  intro s hrf hdigits h0 h1 hsec
  have tenths : decimalFrom 1 s.et = 10 * decimalFrom 2 s.et := by
    rw [decimalFrom_succ (by decide), h1]
    exact Nat.zero_add _
  have start : s.Counted (10 * decimalFrom 2 s.et) :=
    ⟨hdigits, h0, by omega, hrf.trans (decide_eq_true (by omega)).symm⟩
  have reached (k : Nat) (hk : k ≤ 10) : ∃ t, runOps (List.replicate k .slow) s = .next t ∧ t.rf = true ∧
      BcdDigits t.et ∧ nib t.et 0 = 0#4 ∧ decimalFrom 1 t.et = 10 * decimalFrom 2 s.et + k := by
    obtain ⟨hd, hd0, ht, hr⟩ := iterate_slow_counted k start
    exact ⟨_, runOps_replicate k .slow s, hr.trans (decide_eq_true (by omega)), hd, hd0, ht.trans (by omega)⟩
  obtain ⟨-, s2, s3⟩ := digits_of_decimalFrom_one hdigits
  rw [tenths] at s2 s3
  refine ⟨fun k hk => ?upToNine, ?ten⟩
  case upToNine =>
    obtain ⟨t, hrun, hr, hd, hd0, ht⟩ := reached k (by omega)
    obtain ⟨t1, t2, t3⟩ := digits_of_decimalFrom_one hd
    rw [ht] at t1 t2 t3
    exact ⟨t, hrun, hr, hd, hd0, by omega, BitVec.eq_of_toNat_eq (by omega), BitVec.eq_of_toNat_eq (by omega)⟩
  case ten =>
    obtain ⟨t, hrun, hr, hd, hd0, ht⟩ := reached 10 (by omega)
    obtain ⟨t1, t2, t3⟩ := digits_of_decimalFrom_one hd
    rw [ht] at t1 t2 t3
    refine ⟨t, hrun, hr, hd, hd0, ?_, ?_, ?_, ?_⟩
    · bv_omega
    · split <;> bv_omega
    · split <;> bv_omega
    · rw [decimalFrom_two]; omega

end Sys2Proof.Proofs

/-! The display (spec/42_fast_tick_multiplexer.md R95, R96, R99): one FAST, n of them, and the trace they leave. -/

namespace Sys2Proof.Machine

theorem shownAt_digit (et : EtWord) {p : Nat} (h : p < 4) : shownAt et p = segCode params (nib et p) := if_pos h

/-- FAST at any valid position: one refresh there, and on to the next position (R95, R101). -/
theorem fastTick_valid {s : State} (h : s.pos.toNat ≤ 4) :
    fastTick params s =
      { s with
        pos := BitVec.ofNat 3 ((s.pos.toNat + 1) % 5)
        segOut := shownAt s.et s.pos.toNat
        selOut := Machine.select s.pos.toNat
        trace := s.trace ++ refreshEvents s.cycle (shownAt s.et s.pos.toNat) (Machine.select s.pos.toNat) } := by
  rcases Nat.lt_or_eq_of_le h with hlt | heq
  · have next_pos : s.pos + 1#3 = BitVec.ofNat 3 ((s.pos.toNat + 1) % 5) := by
      rw [Nat.mod_eq_of_lt (by omega)]; bv_omega
    rw [fastTick_digit params (BitVec.le_def.mpr (Nat.le_of_lt_succ hlt)), refresh_eq, ← shownAt_digit _ hlt,
      next_pos]
    rfl
  · rw [fastTick_separator params (BitVec.eq_of_toNat_eq heq), refresh_eq, heq]
    rfl

/-- An operation either leaves the output registers and the trace alone or refreshes one position. -/
theorem after_display_cases (i : Instr) (s : State) :
    ((after i s).segOut = s.segOut ∧ (after i s).selOut = s.selOut ∧ (after i s).trace = s.trace) ∨
      ∃ p < 5, (after i s).selOut = Machine.select p ∧
        (after i s).trace = s.trace ++ refreshEvents s.cycle (after i s).segOut (after i s).selOut := by
  cases i with
  | fast =>
    rcases Nat.lt_or_ge s.pos.toNat 5 with h | h
    · rw [after, fastTick_valid (Nat.le_of_lt_succ h)]
      exact .inr ⟨_, h, rfl, rfl⟩
    · rw [after, fastTick_corrupted params (BitVec.lt_def.mpr h)]
      exact .inl ⟨rfl, rfl, rfl⟩
  | slow => rw [after, slowTick_eq]; exact .inl ⟨rfl, rfl, rfl⟩
  | none | start | pause | resetAction | spur => exact .inl ⟨rfl, rfl, rfl⟩

/-! The frame (R99). -/

/-- `n` FAST services from a valid position. -/
theorem iterate_fast_eq (n : Nat) {s : State} (h : s.pos.toNat ≤ 4) :
    let t := (after .fast)^[n] s
    t.et = s.et ∧ t.cycle = s.cycle ∧ t.pos.toNat = (s.pos.toNat + n) % 5 ∧
      t.trace = s.trace ++ (List.range n).flatMap fun k =>
        refreshEvents s.cycle (shownAt s.et ((s.pos.toNat + k) % 5)) (Machine.select ((s.pos.toNat + k) % 5)) := by
  induction n with
  | zero => exact ⟨rfl, rfl, by rw [Nat.add_zero, Nat.mod_eq_of_lt (by omega)]; rfl, (List.append_nil _).symm⟩
  | succ n ih =>
    obtain ⟨het, hcycle, hpos, htrace⟩ := ih
    rw [Function.iterate_succ_apply', after, fastTick_valid (by omega), het, hcycle, hpos, htrace]
    refine ⟨rfl, rfl, ?_, ?_⟩
    · rw [BitVec.toNat_ofNat]; omega
    · rw [List.range_succ, List.flatMap_append, List.flatMap_singleton, List.append_assoc]

/-! The trace (R36, R96, R176). -/

theorem replay_append_refreshEvents (tr : List Event) (n : Nat) (v : SegPattern) (l : SelPattern) :
    replay (tr ++ refreshEvents n v l) = (v, l) := by
  rw [replay, List.foldl_append]; rfl

/-- A refresh first turns every select line off, so it adds no ghosting to any trace. -/
theorem ghostFree_append_refreshEvents (sel : SelPattern) (tr : List Event) (n : Nat) (v : SegPattern)
    (l : SelPattern) : ghostFree sel (tr ++ refreshEvents n v l) = ghostFree sel tr := by
  induction tr generalizing sel with
  | nil => rfl
  | cons e rest ih =>
    rw [List.cons_append, ghostFree, ghostFree]
    cases e.write with
    | segOut => simp only [ih]
    | selOut => simp only [ih]

theorem cycle_of_mem_refreshEvents {n : Nat} {v : SegPattern} {l : SelPattern} {e : Event}
    (h : e ∈ refreshEvents n v l) : e.cycle = n := by
  simp only [refreshEvents, List.mem_cons, List.not_mem_nil, or_false] at h
  rcases h with rfl | rfl | rfl <;> rfl

/-- The discipline is kept by a cycle that writes nothing. -/
theorem State.TraceTells.of_same_display {s t : State} (h : s.TraceTells) (hseg : t.segOut = s.segOut)
    (hsel : t.selOut = s.selOut) (htrace : t.trace = s.trace) (hcycle : t.cycle = s.cycle + 1) : t.TraceTells := by
  obtain ⟨houtputs, hpast, hordered, hghosts⟩ := h
  constructor <;> rw [htrace]
  · rw [hseg, hsel]; exact houtputs
  · intro e he
    rw [hcycle]
    exact Nat.lt_succ_of_lt (hpast e he)
  · exact hordered
  · exact hghosts

/-- The discipline is kept by a cycle that refreshes one position. -/
theorem State.TraceTells.of_refresh {s t : State} (h : s.TraceTells)
    (htrace : t.trace = s.trace ++ refreshEvents s.cycle t.segOut t.selOut)
    (hcycle : t.cycle = s.cycle + 1) : t.TraceTells := by
  obtain ⟨-, hpast, hordered, hghosts⟩ := h
  constructor <;> rw [htrace]
  · exact replay_append_refreshEvents _ _ _ _
  · intro e he
    rw [hcycle]
    rcases List.mem_append.mp he with he | he
    · exact Nat.lt_succ_of_lt (hpast e he)
    · exact Nat.lt_succ_of_le (Nat.le_of_eq (cycle_of_mem_refreshEvents he))
  · refine List.pairwise_append.mpr ⟨hordered, ?_, fun a ha b hb => ?_⟩
    · simp [refreshEvents]
    · rw [cycle_of_mem_refreshEvents hb]; exact Nat.le_of_lt (hpast a ha)
  · rw [ghostFree_append_refreshEvents]; exact hghosts

end Sys2Proof.Machine

namespace Sys2Proof.Proofs

open Sys2Proof.Machine

/-- Settles O19, by induction on the number of services (R99). -/
theorem frameVisitsEachPositionOnce : Obligations.FrameVisitsEachPositionOnce := by
  refine ⟨fun n s h => ?frame, fun s h => ?corrupted⟩
  case frame =>
    obtain ⟨-, -, hpos, htrace⟩ := iterate_fast_eq n h
    exact ⟨_, runOps_replicate n .fast s, hpos, htrace⟩
  case corrupted =>
    refine ⟨_, exec_eq_next .fast s, ?_⟩
    rw [after, fastTick_corrupted params (BitVec.lt_def.mpr h), State.setPos_pos]

/-- Settles O52: an empty trace, and the outputs dark (R171). -/
theorem resetTraceIsDisciplined : Obligations.ResetTraceIsDisciplined :=
  ⟨rfl, fun _ he => absurd he List.not_mem_nil, List.Pairwise.nil, rfl⟩

/-- Settles O51: a cycle writes nothing or one refresh, with its own number and the select lines off first (R96). -/
theorem stepKeepsTraceDiscipline : Obligations.StepKeepsTraceDiscipline := by
  refine fun s t hs h => step_keeps (P := State.TraceTells) (fun _ => ?reset) (fun s hs => ?run) hs h
  case reset =>
    obtain ⟨houtputs, hpast, hordered, hghosts⟩ := resetTraceIsDisciplined
    exact ⟨houtputs, hpast, hordered, hghosts⟩
  case run =>
    rcases after_display_cases (granted params.btnRank s) s with ⟨hseg, hsel, htrace⟩ | ⟨p, -, -, htrace⟩
    · exact hs.of_same_display (by simpa using hseg) (by simpa using hsel) (by simpa using htrace) (by simp)
    · exact hs.of_refresh (by simpa using htrace) (by simp)

end Sys2Proof.Proofs

/-! The reachable-state invariants (spec/10_state.md R37): what an operation leaves in ET, RF, POS and SEL_OUT. -/

namespace Sys2Proof.Machine

/-- An operation keeps ET, clears it or increments it. -/
theorem after_et_cases (i : Instr) (s : State) :
    (after i s).et = s.et ∨ (after i s).et = 0x0000#16 ∨ (after i s).et = bcdInc 1 s.et := by
  cases i with
  | slow =>
    rw [after, slowTick_et]
    split
    · exact .inr (.inr rfl)
    · exact .inl rfl
  | fast => exact .inl (fastTick_et params s)
  | resetAction => exact .inr (.inl rfl)
  | none | start | pause | spur => exact .inl rfl

theorem bcdDigits_zero : BcdDigits 0x0000#16 := by unfold BcdDigits; decide

theorem after_keeps_bcdDigits (i : Instr) {s : State} (h : BcdDigits s.et) : BcdDigits (after i s).et := by
  rcases after_et_cases i s with he | he | he <;> rw [he]
  · exact h
  · exact bcdDigits_zero
  · exact bcdInc_keeps_bcdDigits (by decide) h

theorem after_keeps_digit0_zero (i : Instr) {s : State} (h : nib s.et 0 = 0#4) : nib (after i s).et 0 = 0#4 := by
  rcases after_et_cases i s with he | he | he <;> rw [he]
  · exact h
  · decide
  · rwa [nib_bcdInc_below (by decide) (by decide)]

theorem after_keeps_valid_pos (i : Instr) {s : State} (h : s.pos.toNat ≤ 4) : (after i s).pos.toNat ≤ 4 := by
  by_cases hi : i = .fast
  · subst hi
    rw [after, fastTick_valid h, BitVec.toNat_ofNat]
    omega
  · rwa [after_pos hi]

theorem after_keeps_legalSelect (i : Instr) {s : State} (h : LegalSelect s.selOut) :
    LegalSelect (after i s).selOut := by
  rcases after_display_cases i s with ⟨-, hsel, -⟩ | ⟨p, hp, hsel, -⟩ <;> rw [hsel]
  · exact h
  · exact .inr ⟨p, hp, rfl⟩

/-- The block's lockout counters have no bit, so they are 0 in every state (R31). -/
theorem State.dbCnt_eq_zero (s : State) (i : Fin 3) : s.dbCnt[i] = 0 := eq_zero_of_dbW _

theorem State.dbCnt_le (s : State) (i : Fin 3) : s.dbCnt[i].toNat ≤ params.debounceCycles := by
  rw [s.dbCnt_eq_zero i]; exact Nat.le_refl 0

/-- RF = 1 at the maximum after an operation (R37 (e)): the operation was no SLOW, ET stood there already, and RF was
set already or the operation set it. -/
theorem of_after_running_at_max {i : Instr} {s : State} (hr : (after i s).rf = true)
    (he : (after i s).et = 0x9990#16) : s.et = 0x9990#16 ∧ i ≠ .slow ∧ (s.rf = true ∨ i = .start) := by
  cases i with
  | slow =>
    rw [after] at hr he
    cases hrf : s.rf with
    | false => rw [slowTick_stopped params hrf, hrf] at hr; cases hr
    | true =>
      by_cases hm : s.et = 0x9990#16
      · rw [slowTick_atMax params hm] at hr; cases hr
      · rw [slowTick_counts params hrf hm] at hr he
        exact absurd he (bne_iff_ne.mp hr)
  | fast => exact ⟨(fastTick_et params s).symm.trans he, by decide, .inl ((fastTick_rf params s).symm.trans hr)⟩
  | start => exact ⟨he, by decide, .inr rfl⟩
  | none | spur => exact ⟨he, by decide, .inl hr⟩
  | pause | resetAction => cases hr

end Sys2Proof.Machine

namespace Sys2Proof.Proofs

open Sys2Proof.Machine

/-- Settles O48: the values of ResetState (R171). -/
theorem resetMeetsReachableInvariants : Obligations.ResetMeetsReachableInvariants where
  digits   := bcdDigits_zero
  digit0   := by decide
  position := by decide
  select   := .inl rfl
  fastCnt  := by decide
  slowPre  := by decide
  slowCnt  := by decide
  dbCnt    := State.reset.dbCnt_le

/-- Settles O47: the operation keeps what R37 says of ET, POS and SEL_OUT, and the counters count modulo their
divisors. -/
theorem stepKeepsReachableInvariants : Obligations.StepKeepsReachableInvariants := by
  refine fun s t hs h => step_keeps (P := State.Reachable) (fun s => ?reset) (fun s hs => ?run) hs h
  case reset =>
    obtain ⟨digits, digit0, position, select, fastCnt, slowPre, slowCnt, -⟩ := resetMeetsReachableInvariants
    exact ⟨digits, digit0, position, select, fastCnt, slowPre, slowCnt, s.systemReset.dbCnt_le⟩
  case run =>
    obtain ⟨digits, digit0, position, select, fastCnt, slowPre, slowCnt, -⟩ := hs
    constructor
    case digits => simpa using after_keeps_bcdDigits _ digits
    case digit0 => simpa using after_keeps_digit0_zero _ digit0
    case position => simpa using after_keeps_valid_pos _ position
    case select => simpa using after_keeps_legalSelect _ select
    case fastCnt =>
      rw [run_fastCnt_toNat _ _ fastCnt]
      exact Nat.mod_lt _ (by decide)
    case slowPre =>
      rw [run_slowPre_toNat _ _ slowPre]
      exact Nat.mod_lt _ (by decide)
    case slowCnt =>
      rw [run_slowCnt_toNat _ _ slowCnt]
      split
      · exact Nat.mod_lt _ (by decide)
      · exact slowCnt
    case dbCnt => exact State.dbCnt_le _

/-- Settles O46: the granted operation alone can leave RF = 1 at the maximum (R37 (e)). -/
theorem runningAtMaximumComesFromStart : Obligations.RunningAtMaximumComesFromStart := by
  intro s t h hr he
  rcases step_cases h with ⟨-, rfl⟩ | ⟨hrst, rfl⟩
  case inl => cases hr
  case inr =>
    rw [finishCycle_rf, served_rf] at hr
    rw [finishCycle_et, served_et] at he
    obtain ⟨hmax, hslow, hstart⟩ := of_after_running_at_max hr he
    exact ⟨hrst, hmax, mt (arbitrate_eq_iff _ s .slow).mp hslow,
      hstart.imp_right (arbitrate_eq_iff _ s .start).mpr⟩

end Sys2Proof.Proofs

/-! The buttons and the effective state (spec/43_button_run_control.md R110, R116 to R118, R121 to R123). -/

namespace Sys2Proof.Machine

/-! IFG and the operations: only the button port's services write it. -/

/-- What an operation leaves of the indicators (R46, R111 to R114). -/
def ifgAfter (i : Instr) (f : Indicators) : Indicators :=
  match i with
  | .none | .slow | .fast => f
  | .start => setBit f 0 false
  | .pause => setBit f 1 false
  | .resetAction => setBit f 2 false
  | .spur => 0b0000#4

theorem after_ifg (i : Instr) (s : State) : (after i s).ifg = ifgAfter i s.ifg := by
  cases i with
  | slow => exact slowTick_ifg params s
  | fast =>
    obtain ⟨_, _, _, _, h⟩ := fastTick_eq params s
    rw [after, h]
    rfl
  | none | start | pause | resetAction | spur => rfl

/-- The service of a non-zero port clears its lowest set bit (R110, R117). -/
theorem ifgAfter_btnSelect {f : Indicators} (h : f ≠ 0b0000#4) : ifgAfter (btnSelect f) f = f &&& (f - 1#4) := by
  revert f; decide

/-! The selected line (R110). -/

theorem btnSelect_eq_start_iff (f : Indicators) : btnSelect f = .start ↔ f.getLsbD 0 = true := by
  revert f; decide

theorem btnSelect_eq_pause_iff (f : Indicators) :
    btnSelect f = .pause ↔ f.getLsbD 0 = false ∧ f.getLsbD 1 = true := by
  revert f; decide

theorem btnSelect_eq_resetAction_iff (f : Indicators) :
    btnSelect f = .resetAction ↔ f.getLsbD 0 = false ∧ f.getLsbD 1 = false ∧ f.getLsbD 2 = true := by
  revert f; decide

theorem after_none (s : State) : after .none s = s := rfl

/-! ET at the maximum (R123). -/

theorem after_keeps_max {i : Instr} (hi : i ≠ .resetAction) {s : State} (h : s.et = 0x9990#16) :
    (after i s).et = 0x9990#16 := by
  cases i with
  | slow => rw [after, slowTick_atMax params h]; exact h
  | fast => exact (fastTick_et params s).trans h
  | resetAction => exact absurd rfl hi
  | none | start | pause | spur => exact h

/-! The effective state (R120, R121). -/

/-- It depends on RF and ET alone. -/
theorem effective_congr (c : Params) {s t : State} (hr : t.rf = s.rf) (he : t.et = s.et) :
    t.effective c = s.effective c := by
  rw [State.effective, State.effective, hr, he]

/-- Without RF it is what ET says. -/
theorem effective_of_not_running {s : State} (h : s.rf = false) :
    s.effective params =
      if s.et = 0x0000#16 then .idle else if s.et = 0x9990#16 then .stoppedOverflow else .paused := by
  split
  next h0 => exact effective_idle params h h0
  next h0 =>
    split
    next hm => exact effective_stoppedOverflow params h h0 hm
    next hm => exact effective_paused params h h0 hm

/-- A running SLOW runs on, unless it is then at the maximum. -/
theorem effective_slowTick {s : State} (h : s.rf = true) :
    (slowTick params s).effective params =
      if (slowTick params s).et = 0x9990#16 then .stoppedOverflow else .running := by
  have stopped {t : State} (hr : t.rf = false) (hm : t.et = 0x9990#16) : t.effective params = .stoppedOverflow :=
    effective_stoppedOverflow params hr (by rw [hm]; decide) hm
  by_cases hm : s.et = 0x9990#16
  · rw [slowTick_atMax params hm, State.setRf_et, if_pos hm]
    exact stopped rfl hm
  · rw [slowTick_counts params h hm]
    split
    next hn => exact stopped (bne_eq_false_iff_eq.mpr hn) hn
    next hn => exact effective_running params (bne_iff_ne.mpr hn)

end Sys2Proof.Machine

namespace Sys2Proof.Proofs

open Sys2Proof.Machine

/-- Settles O25: what is said of the sixteen values of IFG (R110, R117). -/
theorem buttonServiceTakesTheLowestLine : Obligations.ButtonServiceTakesTheLowestLine := by
  intro s h
  refine ⟨⟨after (btnSelect s.ifg) s, exec_eq_next _ s, ?_⟩, btnSelect_eq_start_iff _, btnSelect_eq_pause_iff _,
    btnSelect_eq_resetAction_iff _, ifg_of_btnSelect_spur h, fun h8 => by rw [h8]; rfl⟩
  rw [after_ifg, ifgAfter_btnSelect h]

/-- Settles O26: each of the three writes constants and masks IFG, and a mask applied twice is the mask (R116). -/
theorem buttonActionsAreIdempotent : Obligations.ButtonActionsAreIdempotent := by
  obtain ⟨-, start⟩ := startSetsTheRunFlag
  obtain ⟨-, pause⟩ := pauseClearsTheRunFlag
  obtain ⟨-, reset⟩ := resetActionClearsTheTime
  rintro i s (rfl | rfl | rfl)
  · exact ⟨_, start s, by rw [start, BitVec.and_assoc, BitVec.and_self]⟩
  · exact ⟨_, pause s, by rw [pause, BitVec.and_assoc, BitVec.and_self]⟩
  · exact ⟨_, reset s, by rw [reset, BitVec.and_assoc, BitVec.and_self]⟩

/-- Settles O27: the three actions write what the spec lists and read no more; PAUSE after SLOW keeps the counted ET,
SLOW after PAUSE finds RF = 0 (R118, C7). -/
theorem slowAndPauseDoNotCommute : Obligations.SlowAndPauseDoNotCommute := by
  refine ⟨?actions, fun s hr hm => ?order⟩
  case actions =>
    rintro i s e b (rfl | rfl | rfl) <;> exact ⟨_, exec_eq_next _ s, exec_eq_next _ _⟩
  case order =>
    refine ⟨after .pause (after .slow s), after .slow (after .pause s), runOps_eq_next _ s, runOps_eq_next _ s, ?_⟩
    have counted : (after .pause (after .slow s)).et = bcdInc 1 s.et :=
      (slowTick_et params s).trans (if_pos ⟨hr, hm⟩)
    have stopped : after .slow (after .pause s) = after .pause s := slowTick_stopped params rfl
    rw [stopped, counted]
    exact ⟨rfl, rfl, bcdInc_ne (by decide) s.et, rfl, rfl⟩

/-- Settles O29: the table of R121, row by row. -/
theorem effectiveStateTransitions : Obligations.EffectiveStateTransitions := by
  intro i s
  refine ⟨after i s, exec_eq_next i s, ?_⟩
  cases i with
  | start => exact ⟨effective_running params rfl, rfl⟩
  | pause => exact ⟨rfl, rfl, fun h => effective_congr params h.symm rfl, fun _ => effective_of_not_running rfl⟩
  | resetAction => exact effective_idle params rfl rfl
  | slow =>
    obtain ⟨-, running, -, -⟩ := effectiveStatesClassify s
    exact ⟨fun h => slowTick_stopped params (Bool.eq_false_iff.mpr (mt running.mpr h)),
      fun h => effective_slowTick (running.mp h)⟩
  | fast => exact effective_congr params (fastTick_rf params s) (fastTick_et params s)
  | none | spur => exact effective_congr params rfl rfl

/-- Settles O30: no other operation moves ET from the maximum, and a cycle moves it by its operation alone (R123). -/
theorem maximumIsLeftOnlyByReset : Obligations.MaximumIsLeftOnlyByReset := by
  refine ⟨fun i s hi h => ⟨_, exec_eq_next i s, after_keeps_max hi h⟩, fun s h hrst hg => ?step⟩
  case step =>
    refine ⟨_, step_of_run hrst, ?_⟩
    rw [finishCycle_et, served_et]
    exact after_keeps_max (mt (arbitrate_eq_iff _ s .resetAction).mpr hg) h

end Sys2Proof.Proofs

/-! The codes, the arbiter and the step (spec/30_encoding.md R55 to R63, spec/60_exceptions.md R147 to R160). -/

namespace Sys2Proof.Machine

/-- A number that decodes is an operation's code. -/
theorem eq_encode_of_decodeWord_ok {w : Nat} {i : Instr} (h : decodeWord w = .ok i) : w = (encode i).toNat := by
  unfold decodeWord at h
  split at h <;> cases h <;> rfl

theorem decode_eq_ok_iff (g : Grant) (i : Instr) : decode g = .ok i ↔ encode i = g :=
  ⟨fun h => (BitVec.eq_of_toNat_eq (eq_encode_of_decodeWord_ok h)).symm, fun h => h ▸ decode_encode_ok i⟩

/-- Every code but the reserved one is that of an operation. -/
theorem exists_encode_eq {g : Grant} (h : g ≠ 0b011#3) : ∃ i, encode i = g := by
  have all : ∀ g : BitVec 3, g ≠ 0b011#3 →
      g ∈ [Instr.none, .slow, .fast, .start, .pause, .resetAction, .spur].map encode := by decide
  obtain ⟨i, -, hi⟩ := List.mem_map.mp (all g h)
  exact ⟨i, hi⟩

/-! What is granted (R147). -/

/-- With no timer pending the port alone decides. -/
theorem granted_of_no_timer (rank : BtnRank) {s : State} (hslow : s.pendSlow = false) (hfast : s.pendFast = false) :
    granted rank s = if s.ifg = 0b0000#4 then .none else btnSelect s.ifg := by
  by_cases h : s.ifg = 0b0000#4 <;> simp [granted, pendBtn_eq, hslow, hfast, h]

theorem granted_eq_none_iff (rank : BtnRank) (s : State) :
    granted rank s = .none ↔ s.pendSlow = false ∧ s.pendFast = false ∧ s.ifg = 0b0000#4 := by
  refine ⟨fun h => ?_, fun ⟨hslow, hfast, hifg⟩ => (granted_of_no_timer rank hslow hfast).trans (if_pos hifg)⟩
  rcases granted_cases rank s with ⟨hg, -⟩ | ⟨hg, -⟩ | ⟨hg, -⟩ | ⟨-, hidle⟩
  · cases h.symm.trans hg
  · exact absurd (hg.symm.trans h) (btnSelect_is_button s.ifg).1
  · cases h.symm.trans hg
  · exact hidle

/-- The arbiter's three questions are R147's scan of the sources. -/
theorem granted_eq_scan (rank : BtnRank) (s : State) :
    granted rank s = ((sourceOrder rank).findSome? fun src => src.request s).getD .none := by
  unfold granted
  cases rank with
  | high | mid | low =>
    simp only [sourceOrder, List.findSome?_cons, Source.request, btnAboveSlow, btnAboveFast]
    cases s.pendSlow <;> cases s.pendBtn <;> cases s.pendFast <;> rfl

/-- The state made ready for an operation grants it (R147, R110). -/
theorem granted_pendFor (rank : BtnRank) (s : State) (i : Instr) : granted rank (s.pendFor i) = i := by
  have start_bits : ∀ f : BitVec 4, f ||| 0b0001#4 ≠ 0b0000#4 ∧ btnSelect (f ||| 0b0001#4) = .start := by decide
  have pause_bits : ∀ f : BitVec 4, (f &&& 0b1100#4) ||| 0b0010#4 ≠ 0b0000#4 ∧
      btnSelect ((f &&& 0b1100#4) ||| 0b0010#4) = .pause := by decide
  have reset_bits : ∀ f : BitVec 4, (f &&& 0b1000#4) ||| 0b0100#4 ≠ 0b0000#4 ∧
      btnSelect ((f &&& 0b1000#4) ||| 0b0100#4) = .resetAction := by decide
  have button {f : Indicators} (hf : f ≠ 0b0000#4 ∧ btnSelect f = i) :
      granted rank (((s.setPendSlow false).setPendFast false).setIfg f) = i :=
    (granted_of_no_timer rank rfl rfl).trans ((if_neg hf.1).trans hf.2)
  cases i with
  | none => exact granted_of_no_timer rank rfl rfl
  | slow => simp [granted, pendBtn_eq, State.pendFor]
  | fast => simp [granted, pendBtn_eq, State.pendFor]
  | start => exact button (start_bits s.ifg)
  | pause => exact button (pause_bits s.ifg)
  | resetAction => exact button (reset_bits s.ifg)
  | spur => exact button ⟨by decide, by decide⟩

theorem withFetchWord_encode (s : State) (i : Instr) :
    s.withFetchWord 8 (encode i).toNat = (s.pendFor i).withPins pinsReleased := by
  have word : decodeTableWord 8 (encode i).toNat = some i := by cases i <;> rfl
  rw [State.withFetchWord, word]

end Sys2Proof.Machine

namespace Sys2Proof.Proofs

open Sys2Proof.Machine

/-- Settles O1: each code is its operation's, and 011 none's (R55). -/
theorem grantCodesDecodeAsTabled : Obligations.GrantCodesDecodeAsTabled :=
  ⟨decode_encode_ok .none, decode_encode_ok .slow, decode_encode_ok .fast, rfl, decode_encode_ok .start,
    decode_encode_ok .pause, decode_encode_ok .resetAction, decode_encode_ok .spur⟩

/-- Settles O2: the decoder's arms are the encoder's, and every other number is refused (R55, R59, R63). -/
theorem decodeAndEncodeAgree : Obligations.DecodeAndEncodeAgree :=
  ⟨fun i _ => decode_encode_ok i, fun g i => (decode_eq_ok_iff g i).mp, fun _ _ => eq_encode_of_decodeWord_ok⟩

/-- Settles O4: each register by definition, the lockout counters because they have no bit (R171). -/
theorem resetStateHoldsTheTabledValues : Obligations.ResetStateHoldsTheTabledValues :=
  ⟨rfl, rfl, rfl, rfl, rfl, rfl, rfl, rfl, rfl, State.reset.dbCnt_eq_zero, rfl, rfl, rfl, rfl, rfl,
    effective_idle params rfl rfl⟩

/-- Settles O5: with RST = 1 a cycle is system reset, which reads the environment's fields alone (R170). -/
theorem resetPinRestoresEveryRegister : Obligations.ResetPinRestoresEveryRegister :=
  fun s p h => cycle_of_reset _ (s := s.withPins p) h

/-- Settles O15: the codec on sixteen digits, the select encoder on five positions (R91, R92, R94). -/
theorem patternsHaveTheirReferenceValues : Obligations.PatternsHaveTheirReferenceValues :=
  ⟨by decide, onehotLow5_values⟩

/-- Settles O24: NONE is what the arbiter's three questions leave (R115). -/
theorem noneLeavesTheStateAlone : Obligations.NoneLeavesTheStateAlone :=
  ⟨decode_encode_ok .none, fun rank s => (arbitrate_eq_iff rank s .none).trans (granted_eq_none_iff rank s),
    exec_eq_next .none⟩

/-- Settles O31: the arbiter's three questions give what the scan gives (R147). -/
theorem arbiterAsksTheSourcesInOrder : Obligations.ArbiterAsksTheSourcesInOrder := by
  intro rank s
  rw [arbitrate_eq_encode, granted_eq_scan]

/-- Settles O33: each clause is a branch of the arbiter (R149, R153). -/
theorem pendingSlowTickIsGrantedNext : Obligations.PendingSlowTickIsGrantedNext := by
  refine ⟨fun rank s hs h => ?slow, fun rank s hs hf h => ?fast, fun rank s hb h => ?button⟩
  case slow =>
    refine (arbitrate_eq_iff rank s .slow).mpr ?_
    rcases h with h | h
    · cases rank with
      | high => exact absurd rfl h
      | mid | low => simp [granted, hs, btnAboveSlow]
    · simp [granted, pendBtn_eq, hs, h]
  case fast =>
    refine (arbitrate_eq_iff rank s .fast).mpr ?_
    rcases h with rfl | h
    · simp [granted, hs, hf, btnAboveFast]
    · simp [granted, pendBtn_eq, hs, hf, h]
  case button =>
    refine (arbitrate_eq_iff rank s _).mpr ?_
    rcases h with rfl | ⟨hs, rfl | hf⟩
    · simp [granted, pendBtn_eq, hb, btnAboveSlow, btnAboveFast]
    · simp [granted, pendBtn_eq, hb, hs, btnAboveFast]
    · rw [granted_of_no_timer rank hs hf, if_neg hb]

/-- Settles O34: the arbiter grants operations' codes, and 011 is none (R58, R63). -/
theorem reservedCodeIsRefusedAndNeverGranted : Obligations.ReservedCodeIsRefusedAndNeverGranted := by
  refine ⟨execute_reserved, fun rank s h => ?granted, fun g s hg => ?completes⟩
  case granted =>
    rw [arbitrate_eq_encode] at h
    have reserved : decode 0b011#3 = .error .reservedGrant := rfl
    cases ((decode_eq_ok_iff _ _).mpr h).symm.trans reserved
  case completes =>
    obtain ⟨i, rfl⟩ := exists_encode_eq hg
    exact ⟨_, execute_encode i s⟩

/-- Settles O35: the decoded operation is the granted one (R150, R152). -/
theorem stepRunsTheGrantedOperation : Obligations.StepRunsTheGrantedOperation := by
  intro s i hrst hi
  have hg : granted params.btnRank s = i := (arbitrate_eq_iff _ s i).mp ((decode_eq_ok_iff _ i).mp hi).symm
  refine ⟨_, exec_eq_next i _, ?_⟩
  rw [step_of_run hrst, State.served, arbitrate_eq_encode, hg]
  rfl

/-- Settles O37: the making ready sets the indicators of that operation alone (R147). -/
theorem fetchWordIsGranted : Obligations.FetchWordIsGranted := by
  intro rank s i
  rw [withFetchWord_encode]
  exact ⟨(arbitrate_eq_iff rank _ i).mpr (granted_pendFor rank s i), rfl⟩

/-- Settles O38: NONE is granted, and neither it nor capture writes the registers named (R160). -/
theorem idleCycleKeepsTheRegisters : Obligations.IdleCycleKeepsTheRegisters := by
  intro s hslow hfast hifg hrst
  have hg : granted params.btnRank s = .none := (granted_eq_none_iff _ s).mpr ⟨hslow, hfast, hifg⟩
  exact ⟨_, step_of_run hrst, by simp [hg, after_none, -params_btnRank]⟩

end Sys2Proof.Proofs

/-! The display does not reach the timekeeping (spec/10_state.md R38): each phase of a step with other contents of POS,
SEG_OUT, SEL_OUT and the trace. -/

namespace Sys2Proof.Machine

theorem sameButDisplay_iff {s t : State} :
    SameButDisplay s t ↔ ∃ p sg sl tr, t = s.withDisplay p sg sl tr :=
  ⟨fun h => ⟨_, _, _, _, h⟩, fun ⟨_, _, _, _, h⟩ => by rw [h]; rfl⟩

section Display

variable (rank : BtnRank) (s : State) (p : Position) (sg : SegPattern) (sl : SelPattern) (tr : List Event)

theorem acknowledge_withDisplay (g : Grant) :
    (s.withDisplay p sg sl tr).acknowledge g = (s.acknowledge g).withDisplay p sg sl tr := by
  rw [acknowledge_eq, acknowledge_eq]; rfl

theorem granted_withDisplay : granted rank (s.withDisplay p sg sl tr) = granted rank s := rfl

/-- FAST makes the display anew; every other operation leaves it as it is. -/
theorem after_withDisplay (i : Instr) :
    SameButDisplay (after i s) (after i (s.withDisplay p sg sl tr)) := by
  refine sameButDisplay_iff.mpr ?_
  cases i with
  | fast =>
    obtain ⟨_, _, _, _, h⟩ := fastTick_eq params s
    obtain ⟨p', sg', sl', tr', h'⟩ := fastTick_eq params (s.withDisplay p sg sl tr)
    rw [after, after, h, h']
    exact ⟨p', sg', sl', tr', rfl⟩
  | slow => rw [after, after, slowTick_eq, slowTick_eq]; exact ⟨p, sg, sl, tr, rfl⟩
  | none | start | pause | resetAction | spur => exact ⟨p, sg, sl, tr, rfl⟩

theorem served_withDisplay : SameButDisplay (s.served rank) ((s.withDisplay p sg sl tr).served rank) := by
  rw [State.served, State.served, granted_withDisplay, acknowledge_withDisplay]
  exact after_withDisplay _ p sg sl tr _

theorem systemReset_withDisplay : (s.withDisplay p sg sl tr).systemReset = s.systemReset := by
  rw [State.systemReset, State.systemReset, dropInput_withDisplay]
  rfl

end Display

theorem finishCycle_sameButDisplay (q : Pins) {s t : State} (h : SameButDisplay s t) :
    SameButDisplay (finishCycle q s) (finishCycle q t) := by
  obtain ⟨p, sg, sl, tr, rfl⟩ := sameButDisplay_iff.mp h
  exact sameButDisplay_iff.mpr ⟨p, sg, sl, tr, finishCycle_withDisplay s p sg sl tr q⟩

end Sys2Proof.Machine

namespace Sys2Proof.Proofs

open Sys2Proof.Machine

/-- Settles O39: arbiter, operation and capture each treat the two states alike, and system reset makes them one
(R38, R78, R98). -/
theorem timekeepingIgnoresTheDisplay : Obligations.TimekeepingIgnoresTheDisplay := by
  intro s s' h
  obtain ⟨p, sg, sl, tr, rfl⟩ := sameButDisplay_iff.mp h
  cases hrst : s.pins.rst with
  | true =>
    refine ⟨_, _, cycle_of_reset _ hrst, cycle_of_reset _ (s := s.withDisplay p sg sl tr) hrst, ?_⟩
    rw [systemReset_withDisplay]
    rfl
  | false =>
    exact ⟨_, _, step_of_run hrst, step_of_run (s := s.withDisplay p sg sl tr) hrst,
      finishCycle_sameButDisplay _ (served_withDisplay _ s p sg sl tr)⟩

end Sys2Proof.Proofs

/-! The capture phase (spec/60_exceptions.md R137 to R144, R152): the indicators bit by bit, the lockout, the ticks. -/

namespace Sys2Proof.Machine

/-! The width of the lockout counters (R31). -/

theorem lt_two_pow_dbWidth (d : Nat) : d < 2 ^ dbWidth d := by
  unfold dbWidth
  split
  next h => rw [h]; exact Nat.one_pos
  next => exact Nat.lt_log2_self

theorem dbWidth_le {d w : Nat} (h : d < 2 ^ w) : dbWidth d ≤ w := by
  unfold dbWidth
  split
  next => exact Nat.zero_le w
  next hd => exact (Nat.log2_lt hd).mpr h

/-! The edge detector, bit by bit (R142). -/

section Edges

variable {w : Nat} (d : Nat) (btnIn : ButtonLevels) (f : EdgeFront w)

/-- One line's turn sets its own bit on an accepted edge and no other. -/
theorem edgeLine_ifg_getLsbD (i : Fin 3) (j : Nat) :
    (edgeLine d btnIn f i).ifg.getLsbD j = (f.ifg.getLsbD j || (decide (j = i) && acceptedEdge btnIn f i)) := by
  rw [edgeLine_eq]
  have hi : (i : Nat) < 4 := by omega
  cases acceptedEdge btnIn f i with
  | false => simp
  | true =>
    rw [if_pos rfl, getLsbD_setBit f.ifg hi]
    by_cases hj : j = i <;> simp [hj]

theorem edgeDetect_ifg_getLsbD (j : Nat) :
    (edgeDetect d btnIn f).ifg.getLsbD j =
      (f.ifg.getLsbD j || (decide (j = 0) && acceptedEdge btnIn f 0) || (decide (j = 1) && acceptedEdge btnIn f 1) ||
        (decide (j = 2) && acceptedEdge btnIn f 2)) := by
  simp only [edgeDetect, edgeLine_ifg_getLsbD, acceptedEdge_edgeLine _ _ _ (show (0 : Fin 3) ≠ 1 by decide),
    acceptedEdge_edgeLine _ _ _ (show (0 : Fin 3) ≠ 2 by decide),
    acceptedEdge_edgeLine _ _ _ (show (1 : Fin 3) ≠ 2 by decide)]
  rfl

/-- A button line's indicator: set before, or by its accepted edge. -/
theorem edgeDetect_ifg_line (i : Fin 3) :
    (edgeDetect d btnIn f).ifg.getLsbD i = (f.ifg.getLsbD i || acceptedEdge btnIn f i) := by
  rw [edgeDetect_ifg_getLsbD]
  fin_cases i <;> simp

/-- The detector leaves the rest of the port alone. -/
theorem edgeDetect_ifg_other : (edgeDetect d btnIn f).ifg.getLsbD 3 = f.ifg.getLsbD 3 := by
  rw [edgeDetect_ifg_getLsbD]
  simp

/-! The lockout (R143). -/

theorem acceptedEdge_of_unlocked {f : EdgeFront w} {i : Fin 3} (h : f.dbCnt[i] = 0) :
    acceptedEdge btnIn f i = (f.btnPrev.getLsbD i && !btnIn.getLsbD i) := by
  rw [acceptedEdge, h]
  simp

theorem acceptedEdge_of_locked {f : EdgeFront w} {i : Fin 3} (h : f.dbCnt[i].toNat ≠ 0) :
    acceptedEdge btnIn f i = false := by
  have hne : (f.dbCnt[i] == 0#w) = false := beq_eq_false_iff_ne.mpr fun e => h (by rw [e]; rfl)
  rw [acceptedEdge, hne, Bool.and_false]

/-- A locked line's indicator stays and its counter goes down by one. -/
theorem edgeDetect_of_locked {f : EdgeFront w} {i : Fin 3} (h : f.dbCnt[i].toNat ≠ 0) :
    (edgeDetect d btnIn f).ifg.getLsbD i = f.ifg.getLsbD i ∧
      (edgeDetect d btnIn f).dbCnt[i].toNat = f.dbCnt[i].toNat - 1 := by
  rw [edgeDetect_ifg_line, edgeDetect_dbCnt, acceptedEdge_of_locked btnIn h]
  exact ⟨Bool.or_false _, countDown_toNat _⟩

theorem foldl_edgeDetect_of_locked (samples : List ButtonLevels) {f : EdgeFront w} {i : Fin 3}
    (h : samples.length ≤ f.dbCnt[i].toNat) :
    (samples.foldl (fun t l => edgeDetect d l t) f).ifg.getLsbD i = f.ifg.getLsbD i ∧
      (samples.foldl (fun t l => edgeDetect d l t) f).dbCnt[i].toNat = f.dbCnt[i].toNat - samples.length := by
  induction samples generalizing f with
  | nil => exact ⟨rfl, rfl⟩
  | cons l rest ih =>
    rw [List.length_cons] at h
    obtain ⟨hifg, hcnt⟩ := edgeDetect_of_locked d l (f := f) (i := i) (by omega)
    obtain ⟨hifg', hcnt'⟩ := ih (f := edgeDetect d l f) (by omega)
    rw [List.foldl_cons, List.length_cons]
    exact ⟨hifg'.trans hifg, by omega⟩

end Edges

/-! The whole phase. -/

section Capture

variable (c : Params) (p : Pins) (s : State)

theorem capture_ifg :
    (capture c p s).ifg =
      if p.otherEdge then setBit (edgeDetect c.debounceCycles p.btnIn s.front).ifg 3 true
      else (edgeDetect c.debounceCycles p.btnIn s.front).ifg := by
  rw [capture, otherEdge_eq, detectEdges_eq, tickSlow_eq, tickFast_eq]
  rfl

theorem capture_ifg_line (i : Fin 3) :
    (capture c p s).ifg.getLsbD i = (s.ifg.getLsbD i || acceptedEdge p.btnIn s.front i) := by
  have hi : (i : Nat) ≠ 3 := by omega
  rw [capture_ifg, ← State.front_ifg, ← edgeDetect_ifg_line c.debounceCycles]
  split
  · rw [getLsbD_setBit _ (by decide), if_neg hi]
  · rfl

theorem capture_ifg_other : (capture c p s).ifg.getLsbD 3 = (s.ifg.getLsbD 3 || p.otherEdge) := by
  rw [capture_ifg, ← State.front_ifg, ← edgeDetect_ifg_other c.debounceCycles p.btnIn]
  split
  next h => rw [getLsbD_setBit _ (by decide), if_pos rfl, h, Bool.or_true]
  next h => rw [Bool.eq_false_iff.mpr h, Bool.or_false]

/-- The port's value is its three lines and the bit of its other edges. -/
theorem indicators_ext {f g : Indicators} (lines : ∀ i : Fin 3, f.getLsbD i = g.getLsbD i)
    (other : f.getLsbD 3 = g.getLsbD 3) : f = g := by
  refine BitVec.eq_of_getLsbD_eq fun j hj => ?_
  rcases Nat.lt_succ_iff_lt_or_eq.mp hj with h | rfl
  · exact lines ⟨j, h⟩
  · exact other

/-- The bit an edge of the port's other lines sets (R144). -/
def otherBit (edge : Bool) : Indicators := if edge then 0b1000#4 else 0b0000#4

/-- For the block's own parameters: no line is ever locked out. -/
theorem capture_params_ifg :
    (capture params p s).ifg = s.ifg ||| (s.btnPrev &&& ~~~p.btnIn).setWidth 4 ||| otherBit p.otherEdge := by
  have other_line : ∀ (e : Bool) (i : Fin 3), (otherBit e).getLsbD i = false := by decide
  have other_bit : ∀ e : Bool, (otherBit e).getLsbD 3 = e := by decide
  refine indicators_ext (fun i => ?lines) ?other
  case lines =>
    have hi : (i : Nat) < 4 := by omega
    rw [capture_ifg_line, acceptedEdge_of_unlocked p.btnIn (s.dbCnt_eq_zero i), BitVec.getLsbD_or, other_line]
    simp [hi]
  case other =>
    rw [capture_ifg_other, BitVec.getLsbD_or, other_bit]
    simp

theorem capture_btnPrev : (capture c p s).btnPrev = p.btnIn := by
  obtain ⟨_, _, h⟩ := capture_eq c p s
  rw [h]

/-- No indicator is cleared. -/
theorem capture_keeps_ifg : s.ifg &&& (capture c p s).ifg = s.ifg := by
  refine indicators_ext (fun i => ?_) ?_
  · rw [BitVec.getLsbD_and, capture_ifg_line]; exact inf_sup_self
  · rw [BitVec.getLsbD_and, capture_ifg_other]; exact inf_sup_self

end Capture

end Sys2Proof.Machine

namespace Sys2Proof.Proofs

open Sys2Proof.Machine

/-- Settles O53: the width is one more than the binary logarithm (R31). -/
theorem debounceCounterHasTheSmallestWidth : Obligations.DebounceCounterHasTheSmallestWidth :=
  ⟨fun d => ⟨lt_two_pow_dbWidth d, fun _ => dbWidth_le⟩, State.dbCnt_eq_zero⟩

/-- Settles O41: with lockout counters constantly 0 every press edge is accepted (R142, R144). -/
theorem pressEdgesSetTheirIndicators : Obligations.PressEdgesSetTheirIndicators :=
  fun p s => ⟨capture_params_ifg p s, capture_btnPrev params p s, State.dbCnt_eq_zero _⟩

/-- Settles O42: the loaded value fits the width, and the lockout is an induction over the samples (R143). -/
theorem debounceLocksALineOut : Obligations.DebounceLocksALineOut := by
  refine ⟨fun d levels f i h0 hprev hlevel => ?load, fun d samples f i h => foldl_edgeDetect_of_locked d samples h⟩
  case load =>
    have accepted : acceptedEdge levels f i = true := by
      rw [acceptedEdge_of_unlocked levels h0, hprev, hlevel]
      rfl
    rw [edgeDetect_ifg_line, edgeDetect_dbCnt, accepted, Bool.or_true, if_pos rfl, BitVec.toNat_ofNat,
      Nat.mod_eq_of_lt (lt_two_pow_dbWidth d)]
    exact ⟨rfl, rfl⟩

/-- Settles O43: the phase as one record update keeps what was set (R152). -/
theorem captureOnlySetsPendingBits : Obligations.CaptureOnlySetsPendingBits := by
  intro c p s
  obtain ⟨_, _, h⟩ := capture_eq c p s
  refine ⟨fun hs => ?slow, fun hf => ?fast, capture_keeps_ifg c p s, ?frame⟩
  case slow => rw [h, tickSlow_eq, hs]; rfl
  case fast => rw [h, tickFast_eq, hf]; rfl
  case frame => rw [h]

/-- Settles O40: capture counts what the service left alone, and its set bit wins over service entry's clearing
(R137, R138, R141). -/
theorem tickGeneratorCountsAndPends : Obligations.TickGeneratorCountsAndPends := by
  intro s hrst
  refine ⟨_, step_of_run hrst, ?fastCnt, ?slowPre, ?slowCnt, ?pendFast, ?pendSlow⟩
  case fastCnt => rw [finishCycle_fastCnt, served_fastCnt]; rfl
  case slowPre => rw [finishCycle_slowPre, served_slowPre]; rfl
  case slowCnt => rw [finishCycle_slowCnt, served_slowPre, served_slowCnt]; rfl
  case pendFast =>
    rw [finishCycle_pendFast, served_pendFast, served_fastCnt, Bool.or_eq_true, Bool.and_eq_true, beq_iff_eq,
      bne_iff_ne, or_comm]
    rfl
  case pendSlow =>
    rw [finishCycle_pendSlow, served_pendSlow, served_slowPre, served_slowCnt, Bool.or_eq_true, Bool.and_eq_true,
      Bool.and_eq_true, beq_iff_eq, beq_iff_eq, bne_iff_ne, or_comm]
    rfl

/-- Settles O44: in phase, the counters' last values are the last cycles of the periods (R139). -/
theorem ticksFallOnTheirPeriods : Obligations.TicksFallOnTheirPeriods := by
  intro s ⟨hfast, hpre, hslow⟩ hrst
  obtain ⟨t, hstep, -, -, -, pendFast, pendSlow⟩ := tickGeneratorCountsAndPends s hrst
  have fast_iff : s.fastCnt = 1999#16 ↔ (s.cycle + 1) % 2000 = 0 := by
    rw [← BitVec.toNat_inj, hfast, BitVec.toNat_ofNat]
    omega
  have slow_iff : s.slowPre = 1#16 ∧ s.slowCnt = 49999#16 ↔ (s.cycle + 1) % 100000 = 0 := by
    rw [← BitVec.toNat_inj, ← BitVec.toNat_inj, hpre, hslow, BitVec.toNat_ofNat, BitVec.toNat_ofNat]
    omega
  rw [fast_iff] at pendFast
  rw [slow_iff] at pendSlow
  refine ⟨t, hstep, fun h => pendFast.mpr (.inl h), fun h => ⟨pendSlow.mpr (.inl h), ?both⟩, fun h hf => ?noFast,
    fun h hs => ?noSlow⟩
  case both => exact pendFast.mpr (.inl (by omega))
  case noFast => simpa [h, hf] using pendFast
  case noSlow => simpa [h, hs] using pendSlow

/-- Settles O45: cycle 0 grants NONE and captures the held lines; cycle 1 serves the port, the only source, and sees no
second edge (R175). -/
theorem heldButtonIsOnePressAfterReset : Obligations.HeldButtonIsOnePressAfterReset := by
  intro p hrst hheld
  have idle : granted params.btnRank (State.reset.withPins p) = .none :=
    (granted_eq_none_iff _ _).mpr ⟨rfl, rfl, rfl⟩
  obtain ⟨t, ht⟩ : ∃ t, t = finishCycle p ((State.reset.withPins p).served params.btnRank) := ⟨_, rfl⟩
  have port : t.ifg = (~~~p.btnIn).setWidth 4 ||| otherBit p.otherEdge := by
    rw [ht, finishCycle_ifg, capture_params_ifg, served_ifg, idle, after_none, served_btnPrev]
    have released : (State.reset.withPins p).btnPrev = BitVec.allOnes 3 := rfl
    rw [released, BitVec.allOnes_and, show (State.reset.withPins p).ifg = 0#4 from rfl, BitVec.zero_or]
  have pending : t.ifg ≠ 0b0000#4 := by
    have all : ∀ b : BitVec 3, b ≠ 0b111#3 → ∀ o : BitVec 4, (~~~b).setWidth 4 ||| o ≠ 0b0000#4 := by decide
    rw [port]
    exact all _ hheld _
  have no_slow : t.pendSlow = false := by
    rw [ht, finishCycle_pendSlow, served_pendSlow, served_slowPre]
    rfl
  have no_fast : t.pendFast = false := by
    rw [ht, finishCycle_pendFast, served_pendFast, served_fastCnt]
    rfl
  refine ⟨t, ht ▸ step_of_run (s := State.reset.withPins p) hrst, port, fun rank => ?_⟩
  have hg : granted rank t = btnSelect t.ifg := (granted_of_no_timer rank no_slow no_fast).trans (if_neg pending)
  have hg' : granted rank (t.withPins p) = btnSelect t.ifg := hg
  refine ⟨(arbitrate_eq_iff rank t _).mpr hg, _, cycle_of_run rank (s := t.withPins p) hrst, ?_⟩
  have held : t.btnPrev = p.btnIn := by rw [ht, finishCycle_btnPrev]
  rw [finishCycle_ifg, capture_params_ifg, served_ifg, hg', after_ifg, served_btnPrev, State.withPins_ifg,
    State.withPins_btnPrev, held, ifgAfter_btnSelect pending, pins_withPins, BitVec.and_not_self]
  simp [otherBit]

end Sys2Proof.Proofs
